-- ==== Sys2Proof/Word.lean ====
section
/-! DEFINITION. The bit-string types of the CSB, one name per field of `10_state.md` rule R20 (widths of
`00_scope.md` rules R6 and R8). A bit string is also the unsigned number it spells (R10); byte 0 of a byte
string is its most significant byte (R11). -/

namespace Sys2Proof

/-- A 32-bit bus word (R13, R57). -/
abbrev Word := BitVec 32
/-- One byte of a byte string (R11). -/
abbrev Byte := BitVec 8
/-- A byte offset inside the 256-byte register window (R50). -/
abbrev Offset := BitVec 8
/-- A dictionary index, 0 to 2047 (R17, R23). -/
abbrev Index := BitVec 11
/-- The record's version byte (R26). -/
abbrev Version := BitVec 8
/-- The birthday (R31). -/
abbrev Birthday := BitVec 16
/-- The entropy (R32). -/
abbrev Entropy := BitVec 128
/-- The salt, which is also the cipher's nonce (R28). -/
abbrev Salt := BitVec 80
/-- The checksum (R29). -/
abbrev Checksum := BitVec 32
/-- The stretched key (R34). -/
abbrev Key := BitVec 256
/-- A plaintext or a ciphertext: the cipher is length-preserving (R6, R33). -/
abbrev Text := BitVec 144
/-- The checksum's input `VER ++ CT ++ SALT` (R79). -/
abbrev Body := BitVec 232
/-- The record `VER ++ CT ++ SALT ++ CK` (R30, R75). -/
abbrev Record := BitVec 264

end Sys2Proof
end

