-- ==== Sys2Proof/Syntax.lean ====
section
/-! DEFINITION. The eleven commands, one constructor per row of the opcode table (`30_encoding.md` rule R84). No
command has an operand of its own (R80, R81): each finds its operands in the registers its rule names. The
constructors of `OPEN` and `SEAL` carry a longer name because Lean keeps the words `open` and `seal`. -/

namespace Sys2Proof

/-- A command of the CSB (R17, R84). -/
inductive Instr where
  | nop          -- NOP,     R160
  | clrw         -- CLRW,    R142
  | unpack       -- UNPACK,  R143
  | pack         -- PACK,    R144
  | verify       -- VERIFY,  R124
  | ckgen        -- CKGEN,   R123
  | decrypt      -- DECRYPT, R111
  | encrypt      -- ENCRYPT, R110
  | openRecord   -- OPEN,    R161
  | sealRecord   -- SEAL,    R162
  | zeroize      -- ZEROIZE, R163
deriving DecidableEq, Repr

end Sys2Proof
end

