-- ==== Sys2Proof/WellFormed.lean ====
section
/-! DEFINITION. What makes a command well formed. A command has no operand (`30_encoding.md` rules R80, R81), so
every term of `Instr` is well formed; the checks the spec does make are on the command word. -/

namespace Sys2Proof

/-- Every command is well formed: there is no operand that could be out of range (R81). -/
def Instr.wellFormed : Instr → Bool
  | .nop => true
  | .clrw => true
  | .unpack => true
  | .pack => true
  | .verify => true
  | .ckgen => true
  | .decrypt => true
  | .encrypt => true
  | .openRecord => true
  | .sealRecord => true
  | .zeroize => true

/-- The word's reserved bits 31:8 are all zero (R80). -/
def reservedBitsZero (w : Word) : Bool := w.toNat / 256 == 0

/-- The word's opcode, bits 7:0, is one of the eleven of R84. -/
def opcodeAssigned (w : Word) : Bool := decide (w.toNat % 256 ≤ 0x0A)

/-- A word is a legal command exactly when both checks hold (R80, R85). -/
def legalCommand (w : Word) : Bool := reservedBitsZero w && opcodeAssigned w

end Sys2Proof
end

