-- ==== Sys2Proof/Decode.lean ====
section
/-! DEFINITION. The command word: decoding (`30_encoding.md` rules R80, R84, R85, `43_system_macro.md` rule R168), then
encoding. Every word is 32 bits and carried whole by the bus (R57, R86), so there is no length to find and no
byte order to choose. -/

namespace Sys2Proof

/-- Why a word is no command (R85). -/
inductive IllegalWord where
  /-- A reserved bit of 31:8 is set, whatever the opcode. -/
  | reservedBits
  /-- The reserved bits are zero and the opcode is one of `0x0B` to `0xFF`. -/
  | unassignedOpcode
deriving DecidableEq, Repr

/-- The field `op`, bits 7:0 (R80). -/
def opField (w : Word) : BitVec 8 := w.extractLsb' 0 8

/-- The field `rsv`, bits 31:8 (R80). -/
def rsvField (w : Word) : BitVec 24 := w.extractLsb' 8 24

/-- The opcode map (R84); `none` for an unassigned opcode (R85). -/
def opcodeInstr (op : BitVec 8) : Option Instr :=
  match op.toNat with
  | 0x00 => some .nop
  | 0x01 => some .clrw
  | 0x02 => some .unpack
  | 0x03 => some .pack
  | 0x04 => some .verify
  | 0x05 => some .ckgen
  | 0x06 => some .decrypt
  | 0x07 => some .encrypt
  | 0x08 => some .openRecord
  | 0x09 => some .sealRecord
  | 0x0A => some .zeroize
  | _ => none

/-- The command a word stands for, or why it stands for none (R168). -/
def decode (w : Word) : Except IllegalWord Instr :=
  if rsvField w ≠ 0#24 then .error .reservedBits
  else
    match opcodeInstr (opField w) with
    | some i => .ok i
    | none => .error .unassignedOpcode

/-- The command word of a command: the column `match` of R84. -/
def encode : Instr → Word
  | .nop => 0x00000000#32
  | .clrw => 0x00000001#32
  | .unpack => 0x00000002#32
  | .pack => 0x00000003#32
  | .verify => 0x00000004#32
  | .ckgen => 0x00000005#32
  | .decrypt => 0x00000006#32
  | .encrypt => 0x00000007#32
  | .openRecord => 0x00000008#32
  | .sealRecord => 0x00000009#32
  | .zeroize => 0x0000000A#32

/-- The 32-bit word whose low `nbits` bits are those of `w` and whose other bits are zero. -/
def tableWord (nbits w : Nat) : Word := BitVec.ofNat 32 (w % 2 ^ nbits)

/-- The command that the decoder reads from a row of the opcode table (bit 0 of `w` is the word's bit 0). -/
def decodeTableWord (nbits w : Nat) : Option Instr :=
  match decode (tableWord nbits w) with
  | .ok i => some i
  | .error _ => none

end Sys2Proof
end

