-- ==== Sys2Proof/Machine/State.lean ====
section
/-! DEFINITION. The state of one CSB (`10_state.md` rule R20) and the host's side of its bus, as plain data. -/

namespace Sys2Proof.Machine

/-- The result codes, the values of `STATUS.ERR` (`30_encoding.md` rule R88). The values 8 to 15 never occur
(R87), so the type has none. -/
inductive ResultCode where
  | ok | wcount | badword | badver | ckmis | authfail | seq | illegal
deriving DecidableEq, Repr

/-- The kinds of bus error (`60_exceptions.md` rule R178), the machine's fault type in the spec's words. A bus
error is answered to the host and the machine goes on in the same state, so a step carries the kind in its
`Reply` and never ends in it (log entry 4). -/
inductive Fault where
  /-- Raised by every access whose size is not 4 bytes or whose offset bits 1:0 are not 0 (R52, R55). Safe: nothing changes. -/
  | misaligned
  /-- Raised by every aligned access to a reserved offset (R51, R52). Safe: nothing changes. -/
  | unmapped
  /-- Raised by an aligned write to `STATUS` or `IDX0..IDX23` (R52). Safe: nothing changes. -/
  | readOnly
  /-- Raised by an aligned read of `CMD`, `WPUSH` or `KEY0..KEY7` (R52). Safe: nothing changes. -/
  | writeOnly
deriving DecidableEq, Repr

/-- Why the model has no meaning for an instruction. -/
inductive Refusal where
  /-- Raised by `exec` for a command that has no meaning in the model. No arm raises it: all eleven commands
  have their meaning. Safe. -/
  | notModelled (mnemonic : String)
deriving DecidableEq, Repr

/-- One act of the host on the CSB: an access of `size` bytes at an offset of the window (R13, R52), or the
hardware reset, which can occur between any two accesses (R200). The data of a write are the 32 bits of R13;
those of a write of another size are never looked at (R55, log entry 12). -/
inductive HostEvent where
  | read (a : Offset) (size : Nat)
  | write (a : Offset) (size : Nat) (v : Word)
  | reset
deriving DecidableEq, Repr

/-- What an access returns (R13): `data d` is `(OKAY, d)` of a read, `written` is `OKAY` of a write, and
`error k` is `ERROR`. The kind `k` is the model's note of the rule that refused the access; the bus shows
only `ERROR` (R178). -/
inductive Reply where
  | data (d : Word)
  | written
  | error (k : Fault)
deriving DecidableEq, Repr

/-- The architectural state of one CSB, the fifteen pieces of R20 in its order and nothing else, and below them
the model's own two fields for the host's side of the bus. -/
structure State where
  /-- `IDX[0..23]`, the index buffer (R23). -/
  idx : Vector Index 24
  /-- `WCNT`, the count of pushes, saturating at 25 (R24). -/
  wcnt : BitVec 5
  /-- `BADV`, an invalid lookup result was pushed (R25). -/
  badv : Bool
  /-- `BADPOS`, the position of the first invalid push (R25). -/
  badpos : BitVec 5
  /-- `VER`, the record's version (R26). -/
  ver : Version
  /-- `CT`, the record's ciphertext (R27). -/
  ct : Text
  /-- `SALT`, the record's salt (R28). -/
  salt : Salt
  /-- `CK`, the record's checksum (R29). -/
  ck : Checksum
  /-- `BDAY`, the plaintext's birthday (R31). -/
  bday : Birthday
  /-- `ENT`, the plaintext's entropy (R32). -/
  ent : Entropy
  /-- `KEY`, the stretched key, write-only (R34). -/
  key : Key
  /-- `KMASK`, which words of `KEY` were written since it was last invalidated, hidden (R35). -/
  kmask : BitVec 8
  /-- `VFY`, the record passed `VERIFY` and was not changed since (R36). -/
  vfy : Bool
  /-- `PTV`, `BDAY` and `ENT` hold the output of a successful `DECRYPT` (R37). -/
  ptv : Bool
  /-- `ERR`, the result of the most recent command (R38). -/
  err : ResultCode
  /-- The model's own field (log entry 1): what the host will still do, the next first (R15, R59). -/
  script : List HostEvent
  /-- The model's own field (log entry 3): what the most recent access returned (R13). -/
  reply : Option Reply
deriving DecidableEq, Repr

/-- The machine right after reset: every piece of state zero (R42, R201), no access waiting, none answered. -/
def State.reset : State where
  idx := Vector.replicate 24 0#11
  wcnt := 0#5
  badv := false
  badpos := 0#5
  ver := 0#8
  ct := 0#144
  salt := 0#80
  ck := 0#32
  bday := 0#16
  ent := 0#128
  key := 0#256
  kmask := 0#8
  vfy := false
  ptv := false
  err := .ok
  script := []
  reply := none

end Sys2Proof.Machine
end

