-- ==== Sys2Proof/Machine/Flags.lean ====
section
/-! DEFINITION. The flags and the `STATUS` word (`10_state.md` rules R35 to R39), and what a result code is and does
(`30_encoding.md` rule R88, `60_exceptions.md` rule R176). -/

namespace Sys2Proof.Machine

/-- The value of a result code in `STATUS.ERR` (R88). -/
def ResultCode.code : ResultCode → BitVec 4
  | .ok => 0#4
  | .wcount => 1#4
  | .badword => 2#4
  | .badver => 3#4
  | .ckmis => 4#4
  | .authfail => 5#4
  | .seq => 6#4
  | .illegal => 7#4

/-- The codes 1 to 5, with which a decode-path command gives its plaintext up (R37, R176). -/
def ResultCode.isDecodeFailure : ResultCode → Bool
  | .ok => false
  | .wcount => true
  | .badword => true
  | .badver => true
  | .ckmis => true
  | .authfail => true
  | .seq => false
  | .illegal => false

/-- `KEYV`: all eight key words were written since the key was last invalidated (R35). -/
def State.keyv (s : State) : Bool := s.kmask == 0xFF#8

/-- The `STATUS` word (R39, R83): reserved 31:21, `BADPOS` 20:16, reserved 15:13, `WCNT` 12:8, `BADV` 7,
`PTV` 6, `KEYV` 5, `VFY` 4, `ERR` 3:0. -/
def State.status (s : State) : Word :=
  0#11 ++ s.badpos ++ 0#3 ++ s.wcnt ++ BitVec.ofBool s.badv ++ BitVec.ofBool s.ptv
    ++ BitVec.ofBool s.keyv ++ BitVec.ofBool s.vfy ++ s.err.code

end Sys2Proof.Machine
end

