-- ==== Sys2Proof/Machine/Operands.lean ====
section
/-! DEFINITION. How a command or an access finds its operands: the views of the registers (`10_state.md` rules R30,
R33, `30_encoding.md` rules R75 to R79), the 24 groups of the record (R77) and the 32-bit words of a field
wider than a word (R43). Only slices and concatenations (R169 a). The cut and the joining of the 24 groups are
irreducible only so that a proof does not unroll them by accident. -/

namespace Sys2Proof.Machine

/-- `BODY = VER ++ CT ++ SALT`, the checksum's input (R79). -/
def State.body (s : State) : Body := s.ver ++ s.ct ++ s.salt

/-- `REC = VER ++ CT ++ SALT ++ CK`, the record view (R30). -/
def State.record (s : State) : Record := s.ver ++ s.ct ++ s.salt ++ s.ck

/-- `PT = BDAY ++ ENT`, the plaintext view (R33). -/
def State.plaintext (s : State) : Text := s.bday ++ s.ent

/-- `REC[263:256]` (R75). -/
def recVer (r : Record) : Version := r.extractLsb' 256 8
/-- `REC[255:112]` (R75). -/
def recCt (r : Record) : Text := r.extractLsb' 112 144
/-- `REC[111:32]` (R75). -/
def recSalt (r : Record) : Salt := r.extractLsb' 32 80
/-- `REC[31:0]` (R75). -/
def recCk (r : Record) : Checksum := r.extractLsb' 0 32

/-- `PT[143:128]` (R76). -/
def ptBday (p : Text) : Birthday := p.extractLsb' 128 16
/-- `PT[127:0]` (R76). -/
def ptEnt (p : Text) : Entropy := p.extractLsb' 0 128

/-- Group `i` of the record, `REC[263 - 11*i : 253 - 11*i]` (R77). -/
def group (r : Record) (i : Nat) : Index := r.extractLsb' (253 - 11 * i) 11

/-- The record cut into its 24 groups, group 0 most significant (R77). -/
@[irreducible] def splitRecord (r : Record) : Vector Index 24 := Vector.ofFn fun i => group r i.val

/-- `IDX[0] ++ IDX[1] ++ ... ++ IDX[23]`, `IDX[0]` most significant (R143). -/
@[irreducible] def joinIndices (v : Vector Index 24) : Record :=
  v.toList.foldl (fun r g => (r <<< 11) ||| g.setWidth 264) 0#264

/-- Where word `j` of a field of `m` words begins: word 0 is the most significant, and the last word holds
bits 31:0 (R43). -/
def wordShift (m j : Nat) : Nat := 32 * (m - 1 - j)

/-- Word `j` of a field of `m` words, zero-extended when the field ends inside it (R43). -/
def wordOf {n : Nat} (m : Nat) (f : BitVec n) (j : Nat) : Word := f.extractLsb' (wordShift m j) 32

/-- The field with its word `j` replaced; bits of `v` beyond the field are ignored, the other words stay
(R43, R87). -/
def setWordOf {n : Nat} (m : Nat) (f : BitVec n) (j : Nat) (v : Word) : BitVec n :=
  (f &&& ~~~((0xFFFFFFFF#32).setWidth n <<< wordShift m j)) ||| (v.setWidth n <<< wordShift m j)

/-- Byte `k` of a string of `m` bytes, byte 0 the most significant (R11). -/
def byteOf {n : Nat} (m : Nat) (f : BitVec n) (k : Nat) : Byte := f.extractLsb' (8 * (m - 1 - k)) 8

end Sys2Proof.Machine
end

