-- ==== Sys2Proof/Machine/Ops.lean ====
section
/-! DEFINITION. The named operations on the state that the commands and the accesses share. Ending a command with a
result code (`State.raise`) is the CSB's whole "trap entry" and there is no return (`60_exceptions.md` rules
R182, R183); refusing an access (`State.busError`) is its other event (R175). -/

namespace Sys2Proof.Machine

/-- `ERR <- c` and nothing else (R38). -/
def State.setErr (s : State) (c : ResultCode) : State := { s with err := c }

/-- `VFY <- 0` (R36). -/
def State.clearVfy (s : State) : State := { s with vfy := false }

/-- `VFY <- 1` (R36). -/
def State.setVfy (s : State) : State := { s with vfy := true }

/-- `BDAY <- 0; ENT <- 0; PTV <- 0`: nothing of a failed decode is delivered (R37). -/
def State.dropPlaintext (s : State) : State := { s with bday := 0#16, ent := 0#128, ptv := false }

/-- A command ends with the code `c`: the codes 1 to 5 give the plaintext up, every code goes into `ERR`,
and the CSB waits for the next access as after any command (R176, R182). -/
def State.raise (s : State) (c : ResultCode) : State :=
  if c.isDecodeFailure then s.dropPlaintext.setErr c else s.setErr c

/-- Every write of `SALT`, whoever writes it and whatever the value: `VFY <- 0; KMASK <- 0; KEY <- 0` beside
the salt itself (R28, R35, R54). -/
def State.writeSalt (s : State) (n : Salt) : State :=
  { s with salt := n, vfy := false, kmask := 0#8, key := 0#256 }

/-- The four record fields from a record; the salt's write drops the key (R143). -/
def State.loadRecord (s : State) (r : Record) : State :=
  { s.writeSalt (recSalt r) with ver := recVer r, ct := recCt r, ck := recCk r }

/-- The index buffer as `PACK` leaves it: full, with no invalid word (R144). -/
def State.fillIndices (s : State) (v : Vector Index 24) : State :=
  { s with idx := v, wcnt := 24#5, badv := false, badpos := 0#5 }

/-- The index buffer emptied (R142). -/
def State.clearIndices (s : State) : State :=
  { s with idx := Vector.replicate 24 0#11, wcnt := 0#5, badv := false, badpos := 0#5 }

/-- The plaintext registers as a successful `DECRYPT` leaves them (R111). -/
def State.deliver (s : State) (p : Text) : State :=
  { s with bday := ptBday p, ent := ptEnt p, ptv := true }

/-- Every piece of the architectural state to its reset value (R42, R163); the host's side of the bus is no
state of the CSB and stays. -/
def State.allZero (s : State) : State := { State.reset with script := s.script, reply := s.reply }

/-- The event `Reset` (R200, R201): as `allZero`, and no access has been answered since (log entry 3). -/
def State.hardReset (s : State) : State := { State.reset with script := s.script }

/-- The access returns `r` to the host (R13). -/
def State.answer (s : State) (r : Reply) : State := { s with reply := some r }

/-- `raise BusError(k)`: the access returns `ERROR` and no state of the CSB changes, `ERR` included (R13, R52). -/
def State.busError (s : State) (k : Fault) : State := s.answer (.error k)

/-- The response a reply puts on the bus (R13): `true` is `OKAY`, `false` is `ERROR`. -/
def Reply.okay : Reply → Bool
  | .data _ => true
  | .written => true
  | .error _ => false

/-- The data a read returns with its reply; an `ERROR` returns 0 (R13, R178). -/
def Reply.busData : Reply → Word
  | .data d => d
  | .written => 0#32
  | .error _ => 0#32

/-- An outcome with `f` applied to its next state. -/
def mapNext (f : State → State) : Host.Outcome State Fault Refusal → Host.Outcome State Fault Refusal
  | .next s => .next (f s)
  | .fault k => .fault k
  | .refused r => .refused r

end Sys2Proof.Machine
end

