-- ==== Sys2Proof/Machine/Bpu.lean ====
section
/-! DEFINITION. BPU, the bit-packing unit: the push and the commands `CLRW`, `UNPACK`, `PACK` (`42_bitpack.md` rules
R140 to R149). -/

namespace Sys2Proof.Machine

/-- The index a push stores: a value of 2048 or more is no index and stores 0 (R82, R141). -/
def pushedIndex (v : Word) : Index := if v.toNat < 2048 then v.setWidth 11 else 0#11

/-- A push of `v` (R141): from 24 on only the count's saturation at 25; below, the value's index, and the
first invalid value's position. No command: `ERR` stays. -/
def push (v : Word) (s : State) : State :=
  if 24 ≤ s.wcnt.toNat then { s with wcnt := 25#5 }
  else
    { s with
      idx := s.idx.setIfInBounds s.wcnt.toNat (pushedIndex v)
      wcnt := s.wcnt + 1#5
      badv := s.badv || decide (2048 ≤ v.toNat)
      badpos := if s.badv = false ∧ 2048 ≤ v.toNat then s.wcnt else s.badpos }

/-- `CLRW` (R142). -/
def clrw (s : State) : State := s.clearIndices.raise .ok

/-- `UNPACK` (R143): the count is tested first, then the words' validity (R146). -/
def unpack (s : State) : State :=
  if s.wcnt ≠ 24#5 then s.clearVfy.raise .wcount
  else if s.badv then s.clearVfy.raise .badword
  else (s.loadRecord (joinIndices s.idx)).raise .ok

/-- `PACK` (R144). -/
def pack (s : State) : State := (s.fillIndices (splitRecord s.record)).raise .ok

/-- The meaning of `CLRW`. -/
def execClrw (s : State) : Host.Outcome State Fault Refusal := .next (clrw s)

/-- The meaning of `UNPACK`. -/
def execUnpack (s : State) : Host.Outcome State Fault Refusal := .next (unpack s)

/-- The meaning of `PACK`. -/
def execPack (s : State) : Host.Outcome State Fault Refusal := .next (pack s)

end Sys2Proof.Machine
end

