-- ==== Sys2Proof/Config.lean ====
section
/-! DEFINITION. What one CSB fixes for its life and never changes: the parameters of `00_scope.md` rules R6 to
R9, with the cipher left open as the spec leaves it open (`40_cipher_engine.md` rules R105 to R108). -/

namespace Sys2Proof

/-- The configuration of a CSB (R9, R21): the set of supported versions, the cipher and the checksum. The
commands take it as an argument, so that a law is stated for every configuration that has it. -/
structure Config where
  /-- `VSET`, the supported version bytes (R126). -/
  vset : List Version
  /-- `Enc(key, nonce, plaintext)` (R9, R105). -/
  enc : Key → Salt → Text → Text
  /-- `Dec(key, nonce, ciphertext)`; `none` is `AuthFail` (R9, R105). -/
  dec : Key → Salt → Text → Option Text
  /-- `Ck(VER ++ CT ++ SALT)` (R9, R120). -/
  ck : Body → Checksum

/-- Law 2 of the cipher, the round trip (R107). Law 1 (R106: total, deterministic, a function of its three
arguments) is what being a Lean function says. -/
def Config.RoundTrips (c : Config) : Prop :=
  ∀ k n p, c.dec k n (c.enc k n p) = some p

/-- DEDUCED (R108, log entry 5). The unnamed cipher: for each key and nonce some bijection of the 144-bit strings, with
no body, so that nothing can be proved of it beyond laws 1 and 2. By R108 the pairs `Enc`, `Dec` that meet
the two laws are exactly those a family of bijections gives. -/
opaque Config.wbc : Key → Salt → Equiv.Perm Text

/-- `NWORDS` (R6). -/
def Config.nwords : Nat := 24
/-- `GBITS` (R6). -/
def Config.gbits : Nat := 11
/-- `REC_BITS` (R6). -/
def Config.recBits : Nat := 264
/-- `DICT` (R6). -/
def Config.dict : Nat := 2048
/-- `VER_BITS` (R6). -/
def Config.verBits : Nat := 8
/-- `BDAY_BITS` (R6). -/
def Config.bdayBits : Nat := 16
/-- `ENT_BITS` (R6). -/
def Config.entBits : Nat := 128
/-- `PT_BITS` (R6). -/
def Config.ptBits : Nat := 144
/-- `CT_BITS` (R6). -/
def Config.ctBits : Nat := 144
/-- `SALT_BITS`, the spec's own choice D2 (R8, log entry 8). -/
def Config.saltBits : Nat := 80
/-- `CK_BITS`, what the salt leaves of the 112 bits (R7, R8, log entry 8). -/
def Config.ckBits : Nat := 112 - Config.saltBits
/-- `KEY_BITS`, the spec's own choice D4 (R8, log entry 8). -/
def Config.keyBits : Nat := 256

end Sys2Proof
end

