-- ==== Sys2Proof/Machine/Checksum.lean ====
section
/-! DEFINITION. The checksum function `Ck` of this hardware, CRC-32C (`41_seed_codec_checksum.md` rules R120 to
R122; the spec's own choice D3, log entry 6). -/

namespace Sys2Proof.Machine

/-- One turn of the inner loop of R121: a logical right shift by one, and the reflected polynomial when the
bit shifted out is 1. -/
def crcBit (c : Word) : Word :=
  if c.getLsbD 0 then (c >>> 1) ^^^ 0x82F63B78#32 else c >>> 1

/-- `crcBit` repeated `n` times. -/
def crcBits : Nat → Word → Word
  | 0, c => c
  | n + 1, c => crcBits n (crcBit c)

/-- One byte of the outer loop of R121: the byte into the low 8 bits, then eight turns. -/
def crcByte (c : Word) (b : Byte) : Word := crcBits 8 (c ^^^ b.setWidth 32)

/-- `CRC32C` of a byte string, byte 0 first (R121). -/
def crc32c (bs : List Byte) : Word := bs.foldl crcByte 0xFFFFFFFF#32 ^^^ 0xFFFFFFFF#32

/-- The 29 bytes of `BODY`, byte 0 (`VER`) first (R79). -/
def bodyBytes (b : Body) : List Byte := (List.range 29).map (byteOf 29 b)

/-- `Ck(BODY)` (R121). Irreducible only so that a proof does not run the 232 turns of the CRC by accident. -/
@[irreducible] def checksum (b : Body) : Checksum := crc32c (bodyBytes b)

end Sys2Proof.Machine
end

