-- ==== Sys2Proof/Machine/Parameters.lean ====
section
/-! DEFINITION. The configuration of this hardware: the values that `00_scope.md` rules R8 and R9 take, and the
unnamed cipher (log entries 5 to 7). -/

namespace Sys2Proof.Machine

/-- The configuration every command runs under: `VSET = {0}` (R126), `Ck` = CRC-32C (R121), and the cipher
of `Config.wbc` with its inverse, which never answers `AuthFail` (R108). -/
def csbConfig : Config where
  vset := [0x00#8]
  enc := fun k n p => Config.wbc k n p
  dec := fun k n c => some ((Config.wbc k n).symm c)
  ck := checksum

end Sys2Proof.Machine
end

