-- ==== Sys2Proof/Machine/Ckv.lean ====
section
/-! DEFINITION. CKV, the checksum unit: `CKGEN` and `VERIFY` (`41_seed_codec_checksum.md` rules R123 to R126). -/

namespace Sys2Proof.Machine

/-- `CKGEN` (R123): the version is not looked at. -/
def ckgen (cfg : Config) (s : State) : State := { s with ck := cfg.ck s.body, vfy := false }.raise .ok

/-- `VERIFY` (R124): the version is tested before the checksum (R125). -/
def verify (cfg : Config) (s : State) : State :=
  if s.ver ∉ cfg.vset then s.clearVfy.raise .badver
  else if cfg.ck s.body ≠ s.ck then s.clearVfy.raise .ckmis
  else s.setVfy.raise .ok

/-- The meaning of `CKGEN`. -/
def execCkgen (s : State) : Host.Outcome State Fault Refusal := .next (ckgen csbConfig s)

/-- The meaning of `VERIFY`. -/
def execVerify (s : State) : Host.Outcome State Fault Refusal := .next (verify csbConfig s)

end Sys2Proof.Machine
end

