-- ==== Sys2Proof/Machine/Wbc.lean ====
section
/-! DEFINITION. WBC, the wide-block cipher engine: `ENCRYPT` and `DECRYPT` (`40_cipher_engine.md` rules R110 to
R112). Without their flags both are refused with `SEQ` and change nothing else (`43_system_macro.md` R165). -/

namespace Sys2Proof.Machine

/-- `ENCRYPT` (R110). -/
def encrypt (cfg : Config) (s : State) : State :=
  if s.keyv then { s with ct := cfg.enc s.key s.salt s.plaintext, vfy := false }.raise .ok
  else s.raise .seq

/-- `DECRYPT` (R111). The arm of `AuthFail` is the spec's; under laws 1 and 2 no configuration reaches it
(R108). -/
def decrypt (cfg : Config) (s : State) : State :=
  if s.vfy && s.keyv then
    match cfg.dec s.key s.salt s.ct with
    | none => s.raise .authfail
    | some p => (s.deliver p).raise .ok
  else s.raise .seq

/-- The meaning of `ENCRYPT`. -/
def execEncrypt (s : State) : Host.Outcome State Fault Refusal := .next (encrypt csbConfig s)

/-- The meaning of `DECRYPT`. -/
def execDecrypt (s : State) : Host.Outcome State Fault Refusal := .next (decrypt csbConfig s)

end Sys2Proof.Machine
end

