-- ==== Sys2Proof/Machine/System.lean ====
section
/-! DEFINITION. The macro commands `OPEN` and `SEAL` and the system commands `NOP` and `ZEROIZE`
(`43_system_macro.md` rules R160 to R163). -/

namespace Sys2Proof.Machine

/-- `NOP` (R160). -/
def nop (s : State) : State := s.raise .ok

/-- `OPEN` (R161): `UNPACK`, then `VERIFY` if that gave `OK`. -/
def openRecord (cfg : Config) (s : State) : State :=
  if (unpack s).err = .ok then verify cfg (unpack s) else unpack s

/-- `SEAL` (R162): refused before anything is written, or `ENCRYPT`, `CKGEN`, `PACK`. -/
def sealRecord (cfg : Config) (s : State) : State :=
  if s.keyv then (pack (ckgen cfg (encrypt cfg s))).raise .ok else s.raise .seq

/-- `ZEROIZE` (R163). -/
def zeroize (s : State) : State := s.allZero.raise .ok

/-- The meaning of `NOP`. -/
def execNop (s : State) : Host.Outcome State Fault Refusal := .next (nop s)

/-- The meaning of `OPEN`. -/
def execOpenRecord (s : State) : Host.Outcome State Fault Refusal := .next (openRecord csbConfig s)

/-- The meaning of `SEAL`. -/
def execSealRecord (s : State) : Host.Outcome State Fault Refusal := .next (sealRecord csbConfig s)

/-- The meaning of `ZEROIZE`. -/
def execZeroize (s : State) : Host.Outcome State Fault Refusal := .next (zeroize s)

end Sys2Proof.Machine
end

