-- ==== Sys2Proof/Machine/Dispatch.lean ====
section
/-! DEFINITION. The dispatch of a legal command (`43_system_macro.md` rule R168). -/

namespace Sys2Proof.Machine

def exec (i : Instr) (s : State) : Host.Outcome State Fault Refusal :=
  match i with
  | .nop => Sys2Proof.Machine.execNop s
  | .clrw => Sys2Proof.Machine.execClrw s
  | .unpack => Sys2Proof.Machine.execUnpack s
  | .pack => Sys2Proof.Machine.execPack s
  | .verify => Sys2Proof.Machine.execVerify s
  | .ckgen => Sys2Proof.Machine.execCkgen s
  | .decrypt => Sys2Proof.Machine.execDecrypt s
  | .encrypt => Sys2Proof.Machine.execEncrypt s
  | .openRecord => Sys2Proof.Machine.execOpenRecord s
  | .sealRecord => Sys2Proof.Machine.execSealRecord s
  | .zeroize => Sys2Proof.Machine.execZeroize s

end Sys2Proof.Machine
end

