-- ==== Sys2Proof/Machine/Window.lean ====
section
/-! DEFINITION. The register window (`20_memory.md` rules R50 to R57): which register stands at which offset, which
accesses it takes, the order in which an access is checked, and what a read returns. -/

namespace Sys2Proof.Machine

/-- The registers of the window (R51); `j` and `i` number the words of a field and the index registers. -/
inductive Reg where
  | cmd | status | wpush | ver | bday | cksum
  | ent (j : Fin 4)
  | ct (j : Fin 5)
  | salt (j : Fin 3)
  | key (j : Fin 8)
  | idx (i : Fin 24)
deriving DecidableEq, Repr

/-- How a register may be accessed (R51). -/
inductive RegMode where
  | rw | ro | wo
deriving DecidableEq, Repr

/-- The direction of an access (R13). -/
inductive Dir where
  | read | write
deriving DecidableEq, Repr

/-- The offset of a register (R51). -/
def Reg.offset : Reg → Offset
  | .cmd => 0x00#8
  | .status => 0x04#8
  | .wpush => 0x08#8
  | .ver => 0x10#8
  | .bday => 0x14#8
  | .cksum => 0x18#8
  | .ent j => BitVec.ofNat 8 (0x20 + 4 * j.val)
  | .ct j => BitVec.ofNat 8 (0x30 + 4 * j.val)
  | .salt j => BitVec.ofNat 8 (0x50 + 4 * j.val)
  | .key j => BitVec.ofNat 8 (0x60 + 4 * j.val)
  | .idx i => BitVec.ofNat 8 (0x80 + 4 * i.val)

/-- The register at an offset; `none` where the offset is reserved or no multiple of 4 (R51). -/
def regAt (a : Offset) : Option Reg :=
  if a.toNat % 4 ≠ 0 then none
  else if a.toNat = 0x00 then some .cmd
  else if a.toNat = 0x04 then some .status
  else if a.toNat = 0x08 then some .wpush
  else if a.toNat = 0x10 then some .ver
  else if a.toNat = 0x14 then some .bday
  else if a.toNat = 0x18 then some .cksum
  else if 0x20 ≤ a.toNat ∧ a.toNat ≤ 0x2C then some (.ent (Fin.ofNat 4 ((a.toNat - 0x20) / 4)))
  else if 0x30 ≤ a.toNat ∧ a.toNat ≤ 0x40 then some (.ct (Fin.ofNat 5 ((a.toNat - 0x30) / 4)))
  else if 0x50 ≤ a.toNat ∧ a.toNat ≤ 0x58 then some (.salt (Fin.ofNat 3 ((a.toNat - 0x50) / 4)))
  else if 0x60 ≤ a.toNat ∧ a.toNat ≤ 0x7C then some (.key (Fin.ofNat 8 ((a.toNat - 0x60) / 4)))
  else if 0x80 ≤ a.toNat ∧ a.toNat ≤ 0xDC then some (.idx (Fin.ofNat 24 ((a.toNat - 0x80) / 4)))
  else none

/-- The accesses a register takes (R51). -/
def Reg.mode : Reg → RegMode
  | .cmd => .wo
  | .status => .ro
  | .wpush => .wo
  | .ver => .rw
  | .bday => .rw
  | .cksum => .rw
  | .ent _ => .rw
  | .ct _ => .rw
  | .salt _ => .rw
  | .key _ => .wo
  | .idx _ => .ro

/-- What breaks an access of a given direction to a register of a given mode (R52, third check). -/
def modeError : Dir → RegMode → Option Fault
  | .write, .ro => some .readOnly
  | .read, .wo => some .writeOnly
  | .write, .rw => none
  | .write, .wo => none
  | .read, .rw => none
  | .read, .ro => none

/-- The checks of every access, in the order of R52: size and alignment, then the map, then the direction. -/
def checkAccess (d : Dir) (a : Offset) (size : Nat) : Except Fault Reg :=
  if size ≠ 4 ∨ a.toNat % 4 ≠ 0 then .error .misaligned
  else
    match regAt a with
    | none => .error .unmapped
    | some r =>
      match modeError d r.mode with
      | some k => .error k
      | none => .ok r

/-- What a read of a register returns (R53); a register whose read is a bus error returns 0 (R52). -/
def readReg (s : State) : Reg → Word
  | .cmd => 0#32
  | .status => s.status
  | .wpush => 0#32
  | .ver => s.ver.setWidth 32
  | .bday => s.bday.setWidth 32
  | .cksum => s.ck
  | .ent j => wordOf 4 s.ent j.val
  | .ct j => wordOf 5 s.ct j.val
  | .salt j => wordOf 3 s.salt j.val
  | .key _ => 0#32
  | .idx i => (s.idx[i.val]'i.isLt).setWidth 32

end Sys2Proof.Machine
end

