-- ==== Sys2Proof/Machine/Bus.lean ====
section
/-! DEFINITION. The host's acts on the CSB, each one step (`00_scope.md` rules R13, R14): a read, a write, the
reset. A write to `CMD` runs the whole command inside it (R40, R168). -/

namespace Sys2Proof.Machine

/-- A write of `w` to `CMD` (R168): the legality test before everything else; an illegal word only sets
`ERR` (R164). -/
def runCommand (w : Word) (s : State) : Host.Outcome State Fault Refusal :=
  match decode w with
  | .ok i => exec i s
  | .error _ => .next (s.raise .illegal)

/-- What a write of `v` to a register does (R54). A write to `STATUS` or `IDXi` is refused before it comes
here (R52) and would do nothing. -/
def writeReg (r : Reg) (v : Word) (s : State) : Host.Outcome State Fault Refusal :=
  match r with
  | .cmd => runCommand v s
  | .status => .next s
  | .wpush => .next (push v s)
  | .ver => .next { s with ver := v.setWidth 8, vfy := false }
  | .bday => .next { s with bday := v.setWidth 16, ptv := false }
  | .cksum => .next { s with ck := v, vfy := false }
  | .ent j => .next { s with ent := setWordOf 4 s.ent j.val v, ptv := false }
  | .ct j => .next { s with ct := setWordOf 5 s.ct j.val v, vfy := false }
  | .salt j => .next (s.writeSalt (setWordOf 3 s.salt j.val v))
  | .key j => .next { s with key := setWordOf 8 s.key j.val v, kmask := s.kmask ||| (1#8 <<< j.val) }
  | .idx _ => .next s

/-- `MemRead(a, size)` (R52, R53): no read changes any state. -/
def busRead (a : Offset) (size : Nat) (s : State) : State :=
  match checkAccess .read a size with
  | .error k => s.busError k
  | .ok r => s.answer (.data (readReg s r))

/-- `MemWrite(a, size, v)` (R52, R54): the response is `OKAY` whatever a command's result (R40). -/
def busWrite (a : Offset) (size : Nat) (v : Word) (s : State) : Host.Outcome State Fault Refusal :=
  match checkAccess .write a size with
  | .error k => .next (s.busError k)
  | .ok r => mapNext (fun t => t.answer .written) (writeReg r v s)

/-- One act of the host (R13, R200). -/
def serve (e : HostEvent) (s : State) : Host.Outcome State Fault Refusal :=
  match e with
  | .read a size => .next (busRead a size s)
  | .write a size v => busWrite a size v s
  | .reset => .next s.hardReset

/-- The host's next act, taken off its script (log entry 1). With none left the CSB waits: it never acts on
its own (R15, R201, log entry 2). -/
def nextAct (s : State) : Host.Outcome State Fault Refusal :=
  match s.script with
  | [] => .next s
  | e :: rest => serve e { s with script := rest }

/-- The write of a command word to `CMD` (R84, R89). -/
def commandWrite (w : Word) : HostEvent := .write Reg.cmd.offset 4 w

end Sys2Proof.Machine
end

