-- ==== Sys2Proof/Machine/Step.lean ====
section
/-! DEFINITION. One step of the machine: one act of the host, complete when the step is (`00_scope.md` rule R14). -/

namespace Sys2Proof.Machine

/-- One step: the host's next access or reset (R14, R200). -/
def step (s : State) : Host.Outcome State Fault Refusal := Sys2Proof.Machine.nextAct s

/-- The state whose next access writes the table word to `CMD`: the CSB has no program counter (R22), and each
command arrives by value in such a write. What the host meant to do before comes after it (log entry 1). -/
def State.withFetchWord (s : State) (nbits w : Nat) : State :=
  { s with script := Sys2Proof.Machine.commandWrite (Sys2Proof.tableWord nbits w) :: s.script }

end Sys2Proof.Machine
end

