-- ==== Sys2Proof/Machine/Script.lean ====
section
/-! DEFINITION. The script syntax and its pseudo-instructions (`30_encoding.md` rules R89, R90): a line of a host
script and the accesses it stands for. -/

namespace Sys2Proof.Machine

/-- A line of a script (R89, R90). `rdExpect` is `RD <reg> == <value>`. -/
inductive ScriptLine where
  | wr (r : Reg) (v : Word)
  | rd (r : Reg)
  | rdExpect (r : Reg) (v : Word)
  | cmd (i : Instr)
  | push (v : Word)
  | pushBad
  | ldKey (k : Key)
  | ldSalt (n : Salt)
  | ldEnt (e : Entropy)
  | ldCt (c : Text)
  | ldRec (r : Record)
  | pushAll (vs : List Word)
deriving DecidableEq, Repr

/-- `WR <reg>, <value>` (R89). -/
def wrEvent (r : Reg) (v : Word) : HostEvent := .write r.offset 4 v

/-- `RD <reg>` (R89). -/
def rdEvent (r : Reg) : HostEvent := .read r.offset 4

/-- `LDCT` (R90). -/
def ldCtEvents (c : Text) : List HostEvent :=
  (List.finRange 5).map fun j => wrEvent (.ct j) (wordOf 5 c j.val)

/-- `LDSALT` (R90). -/
def ldSaltEvents (n : Salt) : List HostEvent :=
  (List.finRange 3).map fun j => wrEvent (.salt j) (wordOf 3 n j.val)

/-- The accesses of a line, in their order (R89, R90). -/
def assemble : ScriptLine → List HostEvent
  | .wr r v => [wrEvent r v]
  | .rd r => [rdEvent r]
  | .rdExpect r _ => [rdEvent r]
  | .cmd i => [commandWrite (encode i)]
  | .push v => [wrEvent .wpush v]
  | .pushBad => [wrEvent .wpush 0xFFFFFFFF#32]
  | .ldKey k => (List.finRange 8).map fun j => wrEvent (.key j) (wordOf 8 k j.val)
  | .ldSalt n => ldSaltEvents n
  | .ldEnt e => (List.finRange 4).map fun j => wrEvent (.ent j) (wordOf 4 e j.val)
  | .ldCt c => ldCtEvents c
  | .ldRec r =>
    [wrEvent .ver ((recVer r).setWidth 32)] ++ ldCtEvents (recCt r) ++ ldSaltEvents (recSalt r)
      ++ [wrEvent .cksum (recCk r)]
  | .pushAll vs => commandWrite (encode .clrw) :: vs.map (wrEvent .wpush)

/-- The reply a line predicts (R89): only `RD <reg> == <value>` predicts one. -/
def ScriptLine.predicts : ScriptLine → Option Reply
  | .rdExpect _ v => some (.data v)
  | .wr _ _ => none
  | .rd _ => none
  | .cmd _ => none
  | .push _ => none
  | .pushBad => none
  | .ldKey _ => none
  | .ldSalt _ => none
  | .ldEnt _ => none
  | .ldCt _ => none
  | .ldRec _ => none
  | .pushAll _ => none

/-- The accesses of a script, which runs top to bottom (R89). -/
def assembleAll (ls : List ScriptLine) : List HostEvent := ls.flatMap assemble

end Sys2Proof.Machine
end

