-- ==== Sys2Proof/Safety.lean ====
section
/-! DEFINITION. What the claims about the machine speak of: the legal states of a CSB, the failing result codes and
the runs that never stop. -/

namespace Sys2Proof.Machine

/-- What the rules of `10_state.md` keep true of a CSB in every run: `WCNT` is at most 25 (R24); `BADPOS` is 0
while `BADV` is 0, and else names a pushed position below 24 whose index reads 0 (R25, R141); positions not yet
pushed read 0 (R23); a verified record is valid (R36); a key word not written since the key was last
invalidated is 0 (R35). -/
structure LegalState (s : State) : Prop where
  count_le : s.wcnt.toNat ≤ 25
  badpos_zero : s.badv = false → s.badpos = 0#5
  badpos_lt : s.badv = true → s.badpos.toNat < s.wcnt.toNat ∧ s.badpos.toNat < 24
  bad_index_zero : s.badv = true → ∀ (i : Nat) (h : i < 24), s.badpos.toNat = i → s.idx[i] = 0#11
  unpushed_zero : ∀ (i : Nat) (h : i < 24), s.wcnt.toNat ≤ i → s.idx[i] = 0#11
  verified_valid : s.vfy = true → s.ver ∈ csbConfig.vset ∧ csbConfig.ck s.body = s.ck
  unset_key_zero : ∀ j, j < 8 → s.kmask.getLsbD j = false → wordOf 8 s.key j = 0#32

/-- The result codes that end a decode without delivering (R37): 1 to 5. -/
def decodeFailures : List ResultCode := [.wcount, .badword, .badver, .ckmis, .authfail]

/-- The commands of the decode path (R17). -/
def decodePath : List Instr := [.unpack, .verify, .openRecord, .decrypt]

/-- The reserved offsets of the window that are multiples of 4 (R51, R178). -/
def reservedOffsets : List Offset :=
  [0x0C#8, 0x1C#8, 0x44#8, 0x48#8, 0x4C#8, 0x5C#8, 0xE0#8, 0xE4#8, 0xE8#8, 0xEC#8, 0xF0#8, 0xF4#8, 0xF8#8, 0xFC#8]

/-- The offsets of `CT0..CT4` (R51). -/
def ctOffsets : List Offset := [0x30#8, 0x34#8, 0x38#8, 0x3C#8, 0x40#8]
/-- The offsets of `SALT0..SALT2` (R51). -/
def saltOffsets : List Offset := [0x50#8, 0x54#8, 0x58#8]
/-- The offsets of `ENT0..ENT3` (R51). -/
def entOffsets : List Offset := [0x20#8, 0x24#8, 0x28#8, 0x2C#8]
/-- The offsets of `KEY0..KEY7` (R51). -/
def keyOffsets : List Offset := [0x60#8, 0x64#8, 0x68#8, 0x6C#8, 0x70#8, 0x74#8, 0x78#8, 0x7C#8]
/-- The offsets of `IDX0..IDX23` (R51). -/
def idxOffsets : List Offset :=
  [0x80#8, 0x84#8, 0x88#8, 0x8C#8, 0x90#8, 0x94#8, 0x98#8, 0x9C#8, 0xA0#8, 0xA4#8, 0xA8#8, 0xAC#8,
   0xB0#8, 0xB4#8, 0xB8#8, 0xBC#8, 0xC0#8, 0xC4#8, 0xC8#8, 0xCC#8, 0xD0#8, 0xD4#8, 0xD8#8, 0xDC#8]

/-- The registers that are read and written: `VER`, `BDAY`, `CKSUM`, `ENTj`, `CTj`, `SALTj` (R51). -/
def rwOffsets : List Offset := [0x10#8, 0x14#8, 0x18#8] ++ entOffsets ++ ctOffsets ++ saltOffsets
/-- The offsets that a read is accepted at: the `RW` and the `RO` registers (R51). -/
def readableOffsets : List Offset := [0x04#8] ++ rwOffsets ++ idxOffsets
/-- The offsets that a write is accepted at: the `RW` and the `WO` registers (R51). -/
def writableOffsets : List Offset := [0x00#8, 0x08#8] ++ rwOffsets ++ keyOffsets
/-- The offsets of the record's registers, where a write clears `VFY` (R36). -/
def recordOffsets : List Offset := [0x10#8, 0x18#8] ++ ctOffsets ++ saltOffsets

/-- Every piece of the architectural state is zero (R42). -/
structure AllZero (s : State) : Prop where
  idx : ∀ (i : Nat) (h : i < 24), s.idx[i] = 0#11
  wcnt : s.wcnt = 0#5
  badv : s.badv = false
  badpos : s.badpos = 0#5
  ver : s.ver = 0#8
  ct : s.ct = 0#144
  salt : s.salt = 0#80
  ck : s.ck = 0#32
  bday : s.bday = 0#16
  ent : s.ent = 0#128
  key : s.key = 0#256
  kmask : s.kmask = 0#8
  vfy : s.vfy = false
  ptv : s.ptv = false
  err : s.err = .ok

/-- The host's next act is a 32-bit write to one of the offsets. -/
def NextWrites (s : State) (offsets : List Offset) : Prop :=
  ∃ a v rest, s.script = .write a 4 v :: rest ∧ a ∈ offsets

/-- The host's next act writes the command word of one of the commands to `CMD`. -/
def NextCommands (s : State) (is : List Instr) : Prop :=
  ∃ w i rest, s.script = .write 0x00#8 4 w :: rest ∧ decode w = .ok i ∧ i ∈ is

/-- The host's next act is the hardware reset. -/
def NextResets (s : State) : Prop := ∃ rest, s.script = .reset :: rest

end Sys2Proof.Machine
end

