-- ==== Sys2Proof/Certificates/Slice0/Obligations.lean ====
section
/-! DEFINITION. The statements about the machine that are to be proved or refuted. A rule R<n> is one of spec/. Where a
statement speaks of an act of the host it puts that act first on the script of an arbitrary state, so that it holds
in every state. -/

open Sys2Proof Sys2Proof.Machine

/-! ### The command word -/

/-- R80: which of the 2^32 words are commands. -/
def Obligations.CommandWordLegality : Prop :=
  ∀ w : Word, (∃ i, decode w = .ok i) ↔ (w.extractLsb' 8 24 = 0#24 ∧ (w.extractLsb' 0 8).toNat ≤ 0x0A)

/-- R84: a word selects a row exactly when it is the row's `match`; so decoding what was encoded gives the command
back, and encoding what was decoded gives the word back. -/
def Obligations.DecodeEncodeAgree : Prop :=
  (∀ (w : Word) (i : Instr), decode w = .ok i ↔ encode i = w) ∧
  encode .nop = 0x00000000#32 ∧ encode .clrw = 0x00000001#32 ∧ encode .unpack = 0x00000002#32 ∧
  encode .pack = 0x00000003#32 ∧ encode .verify = 0x00000004#32 ∧ encode .ckgen = 0x00000005#32 ∧
  encode .decrypt = 0x00000006#32 ∧ encode .encrypt = 0x00000007#32 ∧ encode .openRecord = 0x00000008#32 ∧
  encode .sealRecord = 0x00000009#32 ∧ encode .zeroize = 0x0000000A#32

/-- Sanity: one word of each unit and two illegal words, written out from R80 and R84. -/
def Obligations.DecodesTableWords : Prop :=
  decode 0x00000000#32 = .ok .nop ∧ decode 0x00000003#32 = .ok .pack ∧ decode 0x00000005#32 = .ok .ckgen ∧
  decode 0x00000006#32 = .ok .decrypt ∧ decode 0x00000009#32 = .ok .sealRecord ∧
  decode 0x0000000B#32 = .error .unassignedOpcode ∧ decode 0x00000104#32 = .error .reservedBits

/-! ### A step, and what the host can do -/

/-- A write of a legal word to `CMD` is `exec` of its command, with the write taken off the script and answered. -/
def Obligations.StepRunsDecodedCommand : Prop :=
  ∀ (s : State) (rest : List HostEvent) (w : Word) (i : Instr), i.wellFormed = true → decode w = .ok i →
    step { s with script := .write 0x00#8 4 w :: rest } =
      mapNext (fun t => { t with reply := some .written }) (exec i { s with script := rest })

/-- R164: an illegal word sets `ERR` to `ILLEGAL`, changes nothing else, and the write returns `OKAY`. -/
def Obligations.IllegalWordOnlySetsErr : Prop :=
  ∀ (s : State) (rest : List HostEvent) (w : Word),
    (w.extractLsb' 8 24 ≠ 0#24 ∨ 0x0B ≤ (w.extractLsb' 0 8).toNat) →
    step { s with script := .write 0x00#8 4 w :: rest } =
      .next { s with script := rest, reply := some .written, err := .illegal }

/-- R40: a write to `CMD` returns `OKAY` whatever the word and whatever the result; a read is refused. -/
def Obligations.CmdWriteAnswersOkay : Prop :=
  ∀ (s : State) (rest : List HostEvent),
    (∀ w : Word, ∃ t, step { s with script := .write 0x00#8 4 w :: rest } = .next t ∧
      t.reply = some .written ∧ t.script = rest) ∧
    step { s with script := .read 0x00#8 4 :: rest } =
      .next { s with script := rest, reply := some (.error .writeOnly) }

/-- The CSB never acts on its own (R15). That a step without an act of the host stays where it is, is the model's
choice (log entry 2). -/
def Obligations.WaitsWithoutAnAct : Prop :=
  ∀ s : State, s.script = [] → step s = .next s

/-- No access, command or reset ends the machine: every run of every length goes on. R203 and R213 say that every
command is defined in every state and that accesses are accepted for ever; that a bus error and a step without an act
are next states is the model's choice (log entries 2 and 4). -/
def Obligations.EveryRunGoesOn : Prop :=
  ∀ (k : Nat) (s : State), ∃ t, Host.Core.run Sys2Proof.core k s = .next t

/-- R42: after the hardware reset and after `ZEROIZE` every piece of state is zero and `STATUS` reads 0. -/
def Obligations.AllZeroAfterResetAndZeroize : Prop :=
  AllZero State.reset ∧
  (∀ (s : State) (rest : List HostEvent), ∃ t, step { s with script := .reset :: rest } = .next t ∧ AllZero t ∧
    t.script = rest ∧ step { t with script := [.read 0x04#8 4] } = .next { t with script := [], reply := some (.data 0#32) }) ∧
  (∀ s : State, ∃ t, exec .zeroize s = .next t ∧ AllZero t ∧
    step { t with script := [.read 0x04#8 4] } = .next { t with script := [], reply := some (.data 0#32) })

/-- R53: what a read returns; a read changes nothing but the script and the reply. -/
def Obligations.ReadsReturnTheRegisters : Prop :=
  ∀ (s : State) (rest : List HostEvent),
    (step { s with script := .read 0x04#8 4 :: rest } = .next { s with script := rest, reply := some (.data s.status) }) ∧
    (step { s with script := .read 0x10#8 4 :: rest } =
      .next { s with script := rest, reply := some (.data (s.ver.setWidth 32)) }) ∧
    (step { s with script := .read 0x14#8 4 :: rest } =
      .next { s with script := rest, reply := some (.data (s.bday.setWidth 32)) }) ∧
    (step { s with script := .read 0x18#8 4 :: rest } = .next { s with script := rest, reply := some (.data s.ck) }) ∧
    (∀ j, j < 4 → step { s with script := .read (BitVec.ofNat 8 (0x20 + 4 * j)) 4 :: rest } =
      .next { s with script := rest, reply := some (.data (s.ent.extractLsb' (96 - 32 * j) 32)) }) ∧
    (∀ j, j < 5 → step { s with script := .read (BitVec.ofNat 8 (0x30 + 4 * j)) 4 :: rest } =
      .next { s with script := rest, reply := some (.data (s.ct.extractLsb' (128 - 32 * j) 32)) }) ∧
    (∀ j, j < 3 → step { s with script := .read (BitVec.ofNat 8 (0x50 + 4 * j)) 4 :: rest } =
      .next { s with script := rest, reply := some (.data (s.salt.extractLsb' (64 - 32 * j) 32)) }) ∧
    (∀ (i : Nat) (h : i < 24), step { s with script := .read (BitVec.ofNat 8 (0x80 + 4 * i)) 4 :: rest } =
      .next { s with script := rest, reply := some (.data (s.idx[i].setWidth 32)) })

/-- R39 with the codes of R88: the `STATUS` word bit by bit, 0 after reset; it is read only. -/
def Obligations.StatusWordLayout : Prop :=
  (∀ (s : State) (rest : List HostEvent), ∃ d : Word,
    step { s with script := .read 0x04#8 4 :: rest } = .next { s with script := rest, reply := some (.data d) } ∧
    d.extractLsb' 0 4 = s.err.code ∧ d.getLsbD 4 = s.vfy ∧ d.getLsbD 5 = decide (s.kmask = 0xFF#8) ∧
    d.getLsbD 6 = s.ptv ∧ d.getLsbD 7 = s.badv ∧ d.extractLsb' 8 5 = s.wcnt ∧ d.extractLsb' 13 3 = 0#3 ∧
    d.extractLsb' 16 5 = s.badpos ∧ d.extractLsb' 21 11 = 0#11) ∧
  (∀ (s : State) (rest : List HostEvent) (v : Word), step { s with script := .write 0x04#8 4 v :: rest } =
    .next { s with script := rest, reply := some (.error .readOnly) }) ∧
  State.reset.status = 0#32 ∧
  ResultCode.code .ok = 0#4 ∧ ResultCode.code .wcount = 1#4 ∧ ResultCode.code .badword = 2#4 ∧
  ResultCode.code .badver = 3#4 ∧ ResultCode.code .ckmis = 4#4 ∧ ResultCode.code .authfail = 5#4 ∧
  ResultCode.code .seq = 6#4 ∧ ResultCode.code .illegal = 7#4

/-- R178 with the order of R52: the four kinds of bus error, their causes, and that each returns `ERROR` with data 0
and changes nothing. -/
def Obligations.BusErrorsChangeNothing : Prop :=
  (∀ (s : State) (rest : List HostEvent) (a : Offset) (size : Nat) (v : Word),
    (size ≠ 4 ∨ a.extractLsb' 0 2 ≠ 0#2 →
      step { s with script := .read a size :: rest } = .next { s with script := rest, reply := some (.error .misaligned) } ∧
      step { s with script := .write a size v :: rest } = .next { s with script := rest, reply := some (.error .misaligned) }) ∧
    (a ∈ reservedOffsets →
      step { s with script := .read a 4 :: rest } = .next { s with script := rest, reply := some (.error .unmapped) } ∧
      step { s with script := .write a 4 v :: rest } = .next { s with script := rest, reply := some (.error .unmapped) }) ∧
    (a = 0x04#8 ∨ a ∈ idxOffsets →
      step { s with script := .write a 4 v :: rest } = .next { s with script := rest, reply := some (.error .readOnly) }) ∧
    (a = 0x00#8 ∨ a = 0x08#8 ∨ a ∈ keyOffsets →
      step { s with script := .read a 4 :: rest } = .next { s with script := rest, reply := some (.error .writeOnly) })) ∧
  (∀ k : Fault, (Reply.error k).okay = false ∧ (Reply.error k).busData = 0#32)

/-- R51 with R52: an access is answered `OKAY` exactly when it is 32 bits wide at the offset of a register that takes
it, and every access is answered. -/
def Obligations.OkayExactlyForTheMappedRegisters : Prop :=
  ∀ (s : State) (rest : List HostEvent) (a : Offset) (size : Nat) (v : Word),
    (∃ t r, step { s with script := .read a size :: rest } = .next t ∧ t.script = rest ∧ t.reply = some r ∧
      (r.okay = true ↔ size = 4 ∧ a ∈ readableOffsets)) ∧
    (∃ t r, step { s with script := .write a size v :: rest } = .next t ∧ t.script = rest ∧ t.reply = some r ∧
      (r.okay = true ↔ size = 4 ∧ a ∈ writableOffsets))

/-! ### Writes to the data registers and the push -/

/-- R54 for the one-word registers: the low bits are kept, the rest ignored, and the flag is cleared. -/
def Obligations.WriteVersionChecksumBirthday : Prop :=
  ∀ (s : State) (rest : List HostEvent) (v : Word),
    step { s with script := .write 0x10#8 4 v :: rest } =
      .next { s with script := rest, reply := some .written, ver := v.extractLsb' 0 8, vfy := false } ∧
    step { s with script := .write 0x18#8 4 v :: rest } =
      .next { s with script := rest, reply := some .written, ck := v, vfy := false } ∧
    step { s with script := .write 0x14#8 4 v :: rest } =
      .next { s with script := rest, reply := some .written, bday := v.extractLsb' 0 16, ptv := false }

/-- R27, R43, R54: a write to `CTj` replaces word `j` of `CT`, clears `VFY`, and leaves everything else. -/
def Obligations.WriteCiphertextWord : Prop :=
  ∀ (s : State) (rest : List HostEvent) (v : Word) (j : Nat), j < 5 → ∃ c : Text,
    step { s with script := .write (BitVec.ofNat 8 (0x30 + 4 * j)) 4 v :: rest } =
      .next { s with script := rest, reply := some .written, ct := c, vfy := false } ∧
    ∀ b, b < 144 → c.getLsbD b =
      if 32 * (4 - j) ≤ b ∧ b < 32 * (4 - j) + 32 then v.getLsbD (b - 32 * (4 - j)) else s.ct.getLsbD b

/-- R32, R43, R54: a write to `ENTj` replaces word `j` of `ENT`, clears `PTV`, and leaves everything else. -/
def Obligations.WriteEntropyWord : Prop :=
  ∀ (s : State) (rest : List HostEvent) (v : Word) (j : Nat), j < 4 → ∃ e : Entropy,
    step { s with script := .write (BitVec.ofNat 8 (0x20 + 4 * j)) 4 v :: rest } =
      .next { s with script := rest, reply := some .written, ent := e, ptv := false } ∧
    ∀ b, b < 128 → e.getLsbD b =
      if 32 * (3 - j) ≤ b ∧ b < 32 * (3 - j) + 32 then v.getLsbD (b - 32 * (3 - j)) else s.ent.getLsbD b

/-- R28, R35, R43, R54: a write to `SALTj`, whatever the value, replaces word `j` of `SALT`, clears `VFY` and drops
the key, and leaves everything else. -/
def Obligations.WriteSaltWordDropsTheKey : Prop :=
  ∀ (s : State) (rest : List HostEvent) (v : Word) (j : Nat), j < 3 → ∃ n : Salt,
    step { s with script := .write (BitVec.ofNat 8 (0x50 + 4 * j)) 4 v :: rest } =
      .next { s with script := rest, reply := some .written, salt := n, vfy := false, key := 0#256, kmask := 0#8 } ∧
    ∀ b, b < 80 → n.getLsbD b =
      if 32 * (2 - j) ≤ b ∧ b < 32 * (2 - j) + 32 then v.getLsbD (b - 32 * (2 - j)) else s.salt.getLsbD b

/-- R34, R35, R43, R54: a write to `KEYj` replaces word `j` of `KEY`, sets bit `j` of `KMASK`, and leaves everything
else, `VFY` included. -/
def Obligations.WriteKeyWordSetsItsMaskBit : Prop :=
  ∀ (s : State) (rest : List HostEvent) (v : Word) (j : Nat), j < 8 → ∃ (k : Key) (m : BitVec 8),
    step { s with script := .write (BitVec.ofNat 8 (0x60 + 4 * j)) 4 v :: rest } =
      .next { s with script := rest, reply := some .written, key := k, kmask := m } ∧
    (∀ b, b < 256 → k.getLsbD b =
      if 32 * (7 - j) ≤ b ∧ b < 32 * (7 - j) + 32 then v.getLsbD (b - 32 * (7 - j)) else s.key.getLsbD b) ∧
    (∀ b, b < 8 → m.getLsbD b = (decide (b = j) || s.kmask.getLsbD b))

/-- R141: the push, its three cases and all they change. -/
def Obligations.PushAppendsOneLookup : Prop :=
  ∀ (s : State) (rest : List HostEvent) (v : Word),
    (24 ≤ s.wcnt.toNat → step { s with script := .write 0x08#8 4 v :: rest } =
      .next { s with script := rest, reply := some .written, wcnt := 25#5 }) ∧
    (s.wcnt.toNat < 24 → v.toNat < 2048 → ∃ x : Vector Index 24,
      step { s with script := .write 0x08#8 4 v :: rest } =
        .next { s with script := rest, reply := some .written, idx := x, wcnt := s.wcnt + 1#5 } ∧
      ∀ (i : Nat) (h : i < 24), x[i] = if i = s.wcnt.toNat then v.extractLsb' 0 11 else s.idx[i]) ∧
    (s.wcnt.toNat < 24 → 2048 ≤ v.toNat → ∃ x : Vector Index 24,
      step { s with script := .write 0x08#8 4 v :: rest } =
        .next { s with script := rest, reply := some .written, idx := x, wcnt := s.wcnt + 1#5, badv := true,
                       badpos := if s.badv then s.badpos else s.wcnt } ∧
      ∀ (i : Nat) (h : i < 24), x[i] = if i = s.wcnt.toNat then 0#11 else s.idx[i])

/-! ### The commands -/

/-- R160: `NOP` sets `ERR` to `OK` and nothing else. -/
def Obligations.NopOnlyClearsErr : Prop :=
  decode 0x00000000#32 = .ok .nop ∧ ∀ s : State, exec .nop s = .next { s with err := .ok }

/-- R142: `CLRW` empties the index buffer and leaves everything else but `ERR`. -/
def Obligations.ClrwEmptiesTheBuffer : Prop :=
  decode 0x00000001#32 = .ok .clrw ∧ ∀ s : State, ∃ x : Vector Index 24,
    exec .clrw s = .next { s with idx := x, wcnt := 0#5, badv := false, badpos := 0#5, err := .ok } ∧
    ∀ (i : Nat) (h : i < 24), x[i] = 0#11

/-- R143: `UNPACK`, its two failures and its success, and all that each changes. -/
def Obligations.UnpackResult : Prop :=
  decode 0x00000002#32 = .ok .unpack ∧ ∀ s : State,
    (s.wcnt ≠ 24#5 → exec .unpack s =
      .next { s with vfy := false, bday := 0#16, ent := 0#128, ptv := false, err := .wcount }) ∧
    (s.wcnt = 24#5 → s.badv = true → exec .unpack s =
      .next { s with vfy := false, bday := 0#16, ent := 0#128, ptv := false, err := .badword }) ∧
    (s.wcnt = 24#5 → s.badv = false → ∃ r : Record,
      (∀ (i : Nat) (h : i < 24), r.extractLsb' (253 - 11 * i) 11 = s.idx[i]) ∧
      exec .unpack s =
        .next { s with vfy := false, ver := r.extractLsb' 256 8, ct := r.extractLsb' 112 144,
                       salt := r.extractLsb' 32 80, ck := r.extractLsb' 0 32, kmask := 0#8, key := 0#256, err := .ok })

/-- R144: `PACK` cuts the record into the 24 groups of R77, whatever the record. -/
def Obligations.PackResult : Prop :=
  decode 0x00000003#32 = .ok .pack ∧ ∀ s : State, ∃ x : Vector Index 24,
    exec .pack s = .next { s with idx := x, wcnt := 24#5, badv := false, badpos := 0#5, err := .ok } ∧
    ∀ (i : Nat) (h : i < 24), x[i] = (s.ver ++ s.ct ++ s.salt ++ s.ck : Record).extractLsb' (253 - 11 * i) 11

/-- R124 with `VSET = {0}` (R126): `VERIFY` tests the version, then the checksum. -/
def Obligations.VerifyResult : Prop :=
  decode 0x00000004#32 = .ok .verify ∧ ∀ s : State,
    (s.ver ≠ 0x00#8 → exec .verify s =
      .next { s with vfy := false, bday := 0#16, ent := 0#128, ptv := false, err := .badver }) ∧
    (s.ver = 0x00#8 → csbConfig.ck (s.ver ++ s.ct ++ s.salt) ≠ s.ck → exec .verify s =
      .next { s with vfy := false, bday := 0#16, ent := 0#128, ptv := false, err := .ckmis }) ∧
    (s.ver = 0x00#8 → csbConfig.ck (s.ver ++ s.ct ++ s.salt) = s.ck → exec .verify s =
      .next { s with vfy := true, err := .ok })

/-- R123: `CKGEN` computes the checksum whatever the version, and clears `VFY`. -/
def Obligations.CkgenResult : Prop :=
  decode 0x00000005#32 = .ok .ckgen ∧ ∀ s : State,
    exec .ckgen s = .next { s with ck := csbConfig.ck (s.ver ++ s.ct ++ s.salt), vfy := false, err := .ok }

/-- R111: `DECRYPT`, its refusal, its failure and its success. -/
def Obligations.DecryptResult : Prop :=
  decode 0x00000006#32 = .ok .decrypt ∧ ∀ s : State,
    (s.vfy = false ∨ s.kmask ≠ 0xFF#8 → exec .decrypt s = .next { s with err := .seq }) ∧
    (s.vfy = true → s.kmask = 0xFF#8 → exec .decrypt s =
      match csbConfig.dec s.key s.salt s.ct with
      | none => .next { s with bday := 0#16, ent := 0#128, ptv := false, err := .authfail }
      | some p => .next { s with bday := p.extractLsb' 128 16, ent := p.extractLsb' 0 128, ptv := true, err := .ok })

/-- R110: `ENCRYPT`, its refusal and its result. -/
def Obligations.EncryptResult : Prop :=
  decode 0x00000007#32 = .ok .encrypt ∧ ∀ s : State,
    (s.kmask ≠ 0xFF#8 → exec .encrypt s = .next { s with err := .seq }) ∧
    (s.kmask = 0xFF#8 → exec .encrypt s =
      .next { s with ct := csbConfig.enc s.key s.salt (s.bday ++ s.ent), vfy := false, err := .ok })

/-- R161: `OPEN` is `UNPACK` and, if that gave `OK`, `VERIFY`; and what it leaves in the flags. -/
def Obligations.OpenIsUnpackThenVerify : Prop :=
  decode 0x00000008#32 = .ok .openRecord ∧ ∀ s : State, ∃ t u,
    exec .unpack s = .next t ∧ exec .openRecord s = .next u ∧
    (t.err ≠ .ok → u = t) ∧ (t.err = .ok → exec .verify t = .next u) ∧
    (u.err = .ok → u.vfy = true ∧ u.kmask ≠ 0xFF#8 ∧ u.ptv = s.ptv ∧ u.bday = s.bday ∧ u.ent = s.ent) ∧
    (u.err ≠ .ok → u.vfy = false ∧ u.ptv = false ∧ u.bday = 0#16 ∧ u.ent = 0#128) ∧
    (u.err = .wcount ∨ u.err = .badword →
      u.ver = s.ver ∧ u.ct = s.ct ∧ u.salt = s.salt ∧ u.ck = s.ck ∧ u.key = s.key ∧ u.kmask = s.kmask)

/-- R180 at `OPEN`, the one command that can meet several causes: the first in the order is reported. -/
def Obligations.OpenReportsTheFirstCause : Prop :=
  ∀ (s : State) (r : Record), (∀ (i : Nat) (h : i < 24), r.extractLsb' (253 - 11 * i) 11 = s.idx[i]) →
    ∃ t, exec .openRecord s = .next t ∧
      t.err =
        if s.wcnt ≠ 24#5 then .wcount
        else if s.badv = true then .badword
        else if r.extractLsb' 256 8 ≠ 0x00#8 then .badver
        else if csbConfig.ck (r.extractLsb' 32 232) ≠ r.extractLsb' 0 32 then .ckmis
        else .ok

/-- R162: `SEAL`, refused with nothing written, or all of its result. -/
def Obligations.SealResult : Prop :=
  decode 0x00000009#32 = .ok .sealRecord ∧ ∀ s : State,
    (s.kmask ≠ 0xFF#8 → exec .sealRecord s = .next { s with err := .seq }) ∧
    (s.kmask = 0xFF#8 → ∃ (c : Text) (k : Checksum) (x : Vector Index 24),
      c = csbConfig.enc s.key s.salt (s.bday ++ s.ent) ∧ k = csbConfig.ck (s.ver ++ c ++ s.salt) ∧
      (∀ (i : Nat) (h : i < 24), x[i] = (s.ver ++ c ++ s.salt ++ k : Record).extractLsb' (253 - 11 * i) 11) ∧
      exec .sealRecord s =
        .next { s with ct := c, ck := k, idx := x, wcnt := 24#5, badv := false, badpos := 0#5, vfy := false, err := .ok })

/-- R162: `SEAL` leaves exactly the state that `ENCRYPT`, `CKGEN`, `PACK` leave one after the other. -/
def Obligations.SealIsItsThreeCommands : Prop :=
  ∀ s : State, s.kmask = 0xFF#8 → ∃ a b c,
    exec .encrypt s = .next a ∧ exec .ckgen a = .next b ∧ exec .pack b = .next c ∧ exec .sealRecord s = .next c

/-- R163: after `ZEROIZE` the CSB is as after a reset, from any state; the host's side of the bus stays. -/
def Obligations.ZeroizeResult : Prop :=
  decode 0x0000000A#32 = .ok .zeroize ∧ ∀ s : State, ∃ t, exec .zeroize s = .next t ∧ AllZero t ∧
    t.script = s.script ∧ t.reply = s.reply ∧
    step { t with script := [.read 0x04#8 4] } = .next { t with script := [], reply := some (.data 0#32) }

/-- R165: `SEQ` is the result of exactly the commands issued without their flags, and it changes only `ERR`. -/
def Obligations.SeqExactlyWithoutTheFlags : Prop :=
  ∀ (i : Instr) (s : State), ∃ t, exec i s = .next t ∧
    (t.err = .seq ↔
      (i = .decrypt ∧ ¬ (s.vfy = true ∧ s.kmask = 0xFF#8)) ∨
      ((i = .encrypt ∨ i = .sealRecord) ∧ s.kmask ≠ 0xFF#8)) ∧
    (t.err = .seq → t = { s with err := .seq })

/-- R129, which the spec infers from R111, R124, R143 and R161: a decode that fails delivers nothing, and `VFY`
stays 1 after `AUTHFAIL` alone. -/
def Obligations.NoPartialDecode : Prop :=
  ∀ (i : Instr) (s t : State), i ∈ decodePath → exec i s = .next t → t.err ∈ decodeFailures →
    t.bday = 0#16 ∧ t.ent = 0#128 ∧ t.ptv = false ∧ t.vfy = decide (t.err = .authfail)

/-- R202, which the spec infers from the commands' rules: what each command does on the reset state. -/
def Obligations.CommandsOnTheResetState : Prop :=
  (∀ i : Instr, i = .nop ∨ i = .clrw ∨ i = .zeroize → exec i State.reset = .next State.reset) ∧
  (∀ i : Instr, i = .unpack ∨ i = .openRecord → exec i State.reset = .next { State.reset with err := .wcount }) ∧
  (∀ i : Instr, i = .decrypt ∨ i = .encrypt ∨ i = .sealRecord →
    exec i State.reset = .next { State.reset with err := .seq }) ∧
  exec .verify State.reset = .next { State.reset with err := .ckmis } ∧
  exec .ckgen State.reset = .next { State.reset with ck := 0x4BFED238#32 } ∧
  exec .pack State.reset = .next { State.reset with wcnt := 24#5 }

/-! ### The codec: round trips and the checksum -/

/-- R145 (a), which the spec infers from R143 and R144: from any state `PACK` then `UNPACK` ends with `OK`, the
record as before, no key and `VFY` 0. -/
def Obligations.PackUnpackRoundTrip : Prop :=
  ∀ s : State, ∃ t u, exec .pack s = .next t ∧ exec .unpack t = .next u ∧ u.err = .ok ∧
    u.ver = s.ver ∧ u.ct = s.ct ∧ u.salt = s.salt ∧ u.ck = s.ck ∧ u.kmask = 0#8 ∧ u.vfy = false

/-- R145 (b), which the spec infers from R143 and R144: after 24 valid pushes from a cleared buffer, `UNPACK` then
`PACK` leaves the indices as pushed. -/
def Obligations.PushUnpackPackRoundTrip : Prop :=
  ∀ (s : State) (x : Vector Index 24), s.wcnt = 0#5 → s.badv = false →
    ∃ t u w,
      Host.Core.run Sys2Proof.core 24
        { s with script := x.toList.map fun g => HostEvent.write 0x08#8 4 (g.setWidth 32) } = .next t ∧
      t.idx = x ∧ t.wcnt = 24#5 ∧ t.badv = false ∧
      exec .unpack t = .next u ∧ u.err = .ok ∧ exec .pack u = .next w ∧ w.idx = x

/-- R162: a sealed record of a supported version verifies. -/
def Obligations.SealThenVerifyAccepts : Prop :=
  ∀ s : State, s.kmask = 0xFF#8 → s.ver = 0x00#8 → ∃ t u,
    exec .sealRecord s = .next t ∧ t.vfy = false ∧ exec .verify t = .next u ∧ u.err = .ok ∧ u.vfy = true

/-- The source's round trip S1 through the block (R107, R127, R128, R132; the cipher is that of log entry 5): what
`SEAL` packed, `OPEN` and `DECRYPT` give back from the indices alone under the same key, on any CSB. -/
def Obligations.SealOpenDecryptRoundTrip : Prop :=
  ∀ s : State, s.kmask = 0xFF#8 → s.ver = 0x00#8 → ∃ a, exec .sealRecord s = .next a ∧
    ∀ t : State, t.idx = a.idx → t.wcnt = 24#5 → t.badv = false → ∃ b, exec .openRecord t = .next b ∧
      b.err = .ok ∧ b.vfy = true ∧ b.salt = s.salt ∧
      ∃ c, exec .decrypt { b with key := s.key, kmask := 0xFF#8 } = .next c ∧
        c.err = .ok ∧ c.ptv = true ∧ c.ver = s.ver ∧ c.bday = s.bday ∧ c.ent = s.ent

/-- R121 (log entry 6): what one more byte does to the CRC, turn by turn; its check values; and that `Ck` is the CRC
of the 29 bytes of `BODY`, byte 0, the version, first (R79). -/
def Obligations.ChecksumCheckValues : Prop :=
  (∀ (bs : List Byte) (b : Byte), crc32c (bs ++ [b]) ^^^ 0xFFFFFFFF#32 =
    (fun c : Word => if c.getLsbD 0 then (c >>> 1) ^^^ 0x82F63B78#32 else c >>> 1)^[8]
      (crc32c bs ^^^ 0xFFFFFFFF#32 ^^^ b.setWidth 32)) ∧
  crc32c [] = 0x00000000#32 ∧
  crc32c [0x31#8, 0x32#8, 0x33#8, 0x34#8, 0x35#8, 0x36#8, 0x37#8, 0x38#8, 0x39#8] = 0xE3069283#32 ∧
  crc32c (List.replicate 29 0x00#8) = 0x4BFED238#32 ∧ crc32c (List.replicate 32 0x00#8) = 0x8A9136AA#32 ∧
  (∀ b : Body, csbConfig.ck b = crc32c ((List.range 29).map fun k => b.extractLsb' (224 - 8 * k) 8))

/-- R131, by the spec's own computation: the checksum is affine over GF(2), so what a change of the record does to
it does not depend on the record. -/
def Obligations.ChecksumIsAffine : Prop :=
  ∀ a b c : Body, csbConfig.ck (a ^^^ b ^^^ c) = csbConfig.ck a ^^^ csbConfig.ck b ^^^ csbConfig.ck c

/-- R131: flipping exactly one of the 264 bits of a record that verifies is always rejected, with `BADVER` for a bit
of the version and `CKMIS` for any other. -/
def Obligations.SingleBitFlipRejected : Prop :=
  ∀ (s : State) (r : Record) (b : Nat), s.ver = 0x00#8 → csbConfig.ck (s.ver ++ s.ct ++ s.salt) = s.ck →
    b < 264 → r = (s.ver ++ s.ct ++ s.salt ++ s.ck : Record) ^^^ (1#264 <<< b) →
    ∃ t, exec .verify { s with ver := r.extractLsb' 256 8, ct := r.extractLsb' 112 144, salt := r.extractLsb' 32 80,
                               ck := r.extractLsb' 0 32 } = .next t ∧
      t.vfy = false ∧ t.err = if b < 256 then .ckmis else .badver

/-- R131, by the spec's own computation: every change confined to two adjacent words of a mnemonic that verifies is
rejected, with `BADVER` if a version bit changed and `CKMIS` otherwise. Words `i` and `i + 1` are the bits `242 -
11*i` to `263 - 11*i`. -/
def Obligations.AdjacentWordChangeRejected : Prop :=
  ∀ (s : State) (r : Record) (i : Nat) (d : BitVec 22), s.ver = 0x00#8 →
    csbConfig.ck (s.ver ++ s.ct ++ s.salt) = s.ck → i < 23 → d ≠ 0#22 →
    r = (s.ver ++ s.ct ++ s.salt ++ s.ck : Record) ^^^ (d.setWidth 264 <<< (242 - 11 * i)) →
    ∃ t, exec .verify { s with ver := r.extractLsb' 256 8, ct := r.extractLsb' 112 144, salt := r.extractLsb' 32 80,
                               ck := r.extractLsb' 0 32 } = .next t ∧
      t.vfy = false ∧ t.err = if r.extractLsb' 256 8 = 0x00#8 then .ckmis else .badver

/-! ### The cipher -/

/-- R107 for the machine's own configuration, whose cipher is some family of bijections without a body (log entry
5). -/
def Obligations.MachineCipherRoundTrips : Prop :=
  ∀ (k : Key) (n : Salt) (p : Text), csbConfig.dec k n (csbConfig.enc k n p) = some p

/-- R108, which the spec infers from laws 1 and 2 (R106, R107): under them encryption is a bijection, `Dec` is its
inverse and never answers `AuthFail`, and `DECRYPT` never ends with `AUTHFAIL`. -/
def Obligations.LawfulCipherNeverRejects : Prop :=
  ∀ cfg : Config, cfg.RoundTrips →
    (∀ k n, Function.Bijective (cfg.enc k n)) ∧
    (∀ k n c, ∃ p, cfg.dec k n c = some p ∧ cfg.enc k n p = c) ∧
    (∀ s : State, (decrypt cfg s).err ≠ .authfail)

/-- R111, the arm of `AuthFail`, in a configuration whose `Dec` rejects. -/
def Obligations.AuthFailDeliversNothing : Prop :=
  ∀ (cfg : Config) (s : State), s.vfy = true → s.kmask = 0xFF#8 → cfg.dec s.key s.salt s.ct = none →
    decrypt cfg s = { s with bday := 0#16, ent := 0#128, ptv := false, err := .authfail }

/-- R130, which the spec infers from R120 and R108 (log entry 5): with a verified record `DECRYPT` ends with `OK`
under every key, and the outcome of `VERIFY` is the same under every key. -/
def Obligations.WrongKeyIsNotDetected : Prop :=
  ∀ (s : State) (k : Key),
    (s.vfy = true → s.kmask = 0xFF#8 → ∃ t, exec .decrypt { s with key := k } = .next t ∧ t.err = .ok ∧ t.ptv = true) ∧
    (∃ t, exec .verify s = .next t ∧ exec .verify { s with key := k } = .next { t with key := k })

/-! ### What holds of the machine as a whole -/

/-- R44, which the spec infers from R23 to R38 and the commands' rules: which acts of the host can change which
piece of state. -/
def Obligations.OnlyTheListedWritersChangeState : Prop :=
  ∀ s t : State, step s = .next t → ¬ NextResets s →
    (t.idx ≠ s.idx ∨ t.wcnt ≠ s.wcnt ∨ t.badv ≠ s.badv ∨ t.badpos ≠ s.badpos →
      NextWrites s [0x08#8] ∨ NextCommands s [.clrw, .pack, .sealRecord, .zeroize]) ∧
    (t.ver ≠ s.ver → NextWrites s [0x10#8] ∨ NextCommands s [.unpack, .openRecord, .zeroize]) ∧
    (t.ct ≠ s.ct → NextWrites s ctOffsets ∨ NextCommands s [.unpack, .openRecord, .encrypt, .sealRecord, .zeroize]) ∧
    (t.salt ≠ s.salt → NextWrites s saltOffsets ∨ NextCommands s [.unpack, .openRecord, .zeroize]) ∧
    (t.ck ≠ s.ck → NextWrites s [0x18#8] ∨ NextCommands s [.unpack, .openRecord, .ckgen, .sealRecord, .zeroize]) ∧
    (t.bday ≠ s.bday → NextWrites s [0x14#8] ∨ NextCommands s [.decrypt, .unpack, .verify, .openRecord, .zeroize]) ∧
    (t.ent ≠ s.ent → NextWrites s entOffsets ∨ NextCommands s [.decrypt, .unpack, .verify, .openRecord, .zeroize]) ∧
    (t.key ≠ s.key ∨ t.kmask ≠ s.kmask →
      NextWrites s (keyOffsets ++ saltOffsets) ∨ NextCommands s [.unpack, .openRecord, .zeroize]) ∧
    (t.vfy ≠ s.vfy → NextWrites s recordOffsets ∨
      NextCommands s [.verify, .openRecord, .unpack, .encrypt, .ckgen, .sealRecord, .zeroize]) ∧
    (t.ptv ≠ s.ptv → NextWrites s ([0x14#8] ++ entOffsets) ∨
      NextCommands s [.decrypt, .unpack, .verify, .openRecord, .zeroize]) ∧
    (t.err ≠ s.err → NextWrites s [0x00#8])

/-- R36: `VFY` is set only by a `VERIFY` or `OPEN` that ends with `OK`. -/
def Obligations.VfySetOnlyByPassingVerify : Prop :=
  ∀ s t : State, step s = .next t → s.vfy = false → t.vfy = true →
    NextCommands s [.verify, .openRecord] ∧ t.err = .ok

/-- R37: `PTV` is set only by a `DECRYPT` that ends with `OK`. -/
def Obligations.PtvSetOnlyByDecrypt : Prop :=
  ∀ s t : State, step s = .next t → s.ptv = false → t.ptv = true →
    NextCommands s [.decrypt] ∧ t.err = .ok

/-- R34: no read depends on `KEY`: two CSBs that differ only in the key answer every read alike. -/
def Obligations.KeyCannotBeReadBack : Prop :=
  ∀ (s : State) (k : Key) (rest : List HostEvent) (a : Offset) (size : Nat), ∃ t,
    step { s with script := .read a size :: rest } = .next t ∧
    step { s with key := k, script := .read a size :: rest } = .next { t with key := k }

/-- Every step keeps the invariant of the CSB: R23, R24, R25, R35 and, the strongest part, R36: whenever `VFY` is 1
the record in the registers is valid. -/
def Obligations.InvariantKeptByEveryStep : Prop :=
  ∀ s t : State, LegalState s → step s = .next t → LegalState t

/-- The reset state has the invariant. -/
def Obligations.InvariantAtReset : Prop := LegalState State.reset

/-! ### The hazards and the script syntax -/

/-- R208: after a write to any word of `SALT`, whatever the value, `ENCRYPT`, `SEAL` and `DECRYPT` are refused. -/
def Obligations.SaltWriteForcesSeq : Prop :=
  ∀ (s : State) (a : Offset) (v : Word) (i : Instr), a ∈ saltOffsets →
    i = .encrypt ∨ i = .sealRecord ∨ i = .decrypt → ∃ t,
      Host.Core.run Sys2Proof.core 2 { s with script := [.write a 4 v, .write 0x00#8 4 (encode i)] } = .next t ∧
      t.err = .seq

/-- R210: after a write to any register of the record `DECRYPT` is refused until a record verifies. -/
def Obligations.RecordWriteForcesSeqOnDecrypt : Prop :=
  ∀ (s : State) (a : Offset) (v : Word), a ∈ recordOffsets → ∃ t,
    Host.Core.run Sys2Proof.core 2 { s with script := [.write a 4 v, .write 0x00#8 4 0x00000006#32] } = .next t ∧
    t.err = .seq

/-- R209: a push on a full buffer makes the next `UNPACK` or `OPEN` end with `WCOUNT`. -/
def Obligations.PushOnFullBufferForcesWcount : Prop :=
  ∀ (s : State) (v : Word) (i : Instr), 24 ≤ s.wcnt.toNat → i = .unpack ∨ i = .openRecord → ∃ t,
    Host.Core.run Sys2Proof.core 2 { s with script := [.write 0x08#8 4 v, .write 0x00#8 4 (encode i)] } = .next t ∧
    t.err = .wcount ∧ t.wcnt = 25#5

/-- R90: `LDKEY`, `LDSALT`, `LDENT`, `LDCT` and `LDREC` load their registers from any state. -/
def Obligations.LoadPseudoInstructions : Prop :=
  ∀ s : State,
    (∀ k : Key, Host.Core.run Sys2Proof.core 8 { s with script := assemble (.ldKey k) } =
      .next { s with script := [], reply := some .written, key := k, kmask := 0xFF#8 }) ∧
    (∀ n : Salt, Host.Core.run Sys2Proof.core 3 { s with script := assemble (.ldSalt n) } =
      .next { s with script := [], reply := some .written, salt := n, vfy := false, key := 0#256, kmask := 0#8 }) ∧
    (∀ e : Entropy, Host.Core.run Sys2Proof.core 4 { s with script := assemble (.ldEnt e) } =
      .next { s with script := [], reply := some .written, ent := e, ptv := false }) ∧
    (∀ c : Text, Host.Core.run Sys2Proof.core 5 { s with script := assemble (.ldCt c) } =
      .next { s with script := [], reply := some .written, ct := c, vfy := false }) ∧
    (∀ r : Record, Host.Core.run Sys2Proof.core 10 { s with script := assemble (.ldRec r) } =
      .next { s with script := [], reply := some .written, ver := r.extractLsb' 256 8, ct := r.extractLsb' 112 144,
                     salt := r.extractLsb' 32 80, ck := r.extractLsb' 0 32, vfy := false, key := 0#256, kmask := 0#8 })
end

