-- ==== Sys2Proof/Laws/Checksum.lean ====
section
/-! SUPPORT. What the checksum is, said once, so that a proof rewrites by it and does not unfold the CRC
(`41_seed_codec_checksum.md` rules R120 to R122). -/

namespace Sys2Proof.Machine

theorem csbConfig_ck (b : Body) : csbConfig.ck b = checksum b := rfl

theorem checksum_eq_crc32c (b : Body) : checksum b = crc32c (bodyBytes b) := by unfold checksum; rfl

theorem crcBits_zero (c : Word) : crcBits 0 c = c := rfl

theorem crcBits_succ (n : Nat) (c : Word) : crcBits (n + 1) c = crcBits n (crcBit c) := rfl

end Sys2Proof.Machine
end

