-- ==== Sys2Proof/Laws/Operands.lean ====
section
/-! SUPPORT. The words of a field (R43) and the groups of the record (R77), bit by bit. -/

namespace Sys2Proof.Machine

theorem getLsbD_wordOf {n : Nat} (m : Nat) (f : BitVec n) (j b : Nat) :
    (wordOf m f j).getLsbD b = (decide (b < 32) && f.getLsbD (wordShift m j + b)) := by
  simp [wordOf, BitVec.getLsbD_extractLsb']

/-- Writing word `j` changes exactly the bits of that word. -/
theorem getLsbD_setWordOf {n : Nat} (m : Nat) (f : BitVec n) (j : Nat) (v : Word) (b : Nat) (hb : b < n) :
    (setWordOf m f j v).getLsbD b =
      if wordShift m j ≤ b ∧ b < wordShift m j + 32 then v.getLsbD (b - wordShift m j) else f.getLsbD b := by
  have hones : ∀ i, (0xFFFFFFFF#32).getLsbD i = decide (i < 32) := by
    intro i
    rw [show (0xFFFFFFFF#32) = BitVec.allOnes 32 from rfl, BitVec.getLsbD_allOnes]
  simp only [setWordOf, BitVec.getLsbD_or, BitVec.getLsbD_and, BitVec.getLsbD_not, BitVec.getLsbD_shiftLeft,
    BitVec.getLsbD_setWidth, hones]
  by_cases h1 : wordShift m j ≤ b
  · by_cases h2 : b < wordShift m j + 32
    · have : b - wordShift m j < n := by omega
      have : b - wordShift m j < 32 := by omega
      simp [*, Nat.not_lt.mpr h1]
    · have h3 : ¬ b - wordShift m j < 32 := by omega
      have h4 : v.getLsbD (b - wordShift m j) = false := BitVec.getLsbD_of_ge _ _ (by omega)
      simp [*]
  · simp [*, Nat.lt_of_not_le h1]

/-- Writing one word leaves the others (R43). -/
theorem wordOf_setWordOf_of_ne {n : Nat} (m : Nat) (f : BitVec n) (i j : Nat) (v : Word)
    (hi : i < m) (hj : j < m) (hne : i ≠ j) : wordOf m (setWordOf m f j v) i = wordOf m f i := by
  apply BitVec.eq_of_getLsbD_eq
  intro b hb
  simp only [getLsbD_wordOf]
  by_cases hn : wordShift m i + b < n
  · rw [getLsbD_setWordOf _ _ _ _ _ hn, if_neg]
    simp only [wordShift]
    omega
  · rw [BitVec.getLsbD_of_ge _ _ (Nat.not_lt.mp hn), BitVec.getLsbD_of_ge _ _ (Nat.not_lt.mp hn)]

/-- A word that was read from a field of the same width reads back after it is written (R43). -/
theorem wordOf_setWordOf_wordOf {n : Nat} (m : Nat) (f g : BitVec n) (j : Nat) :
    wordOf m (setWordOf m f j (wordOf m g j)) j = wordOf m g j := by
  apply BitVec.eq_of_getLsbD_eq
  intro b hb
  rw [getLsbD_wordOf, getLsbD_wordOf]
  by_cases hn : wordShift m j + b < n
  · rw [getLsbD_setWordOf _ _ _ _ _ hn, if_pos ⟨by omega, by omega⟩, Nat.add_sub_cancel_left, getLsbD_wordOf]
    simp [hb]
  · rw [BitVec.getLsbD_of_ge _ _ (Nat.not_lt.mp hn), BitVec.getLsbD_of_ge _ _ (Nat.not_lt.mp hn)]

/-- A field is determined by its words: two fields with the same words are the same field. -/
theorem eq_of_wordOf_eq {n : Nat} (m : Nat) (hm : n ≤ 32 * m) (f g : BitVec n)
    (h : ∀ j, j < m → wordOf m f j = wordOf m g j) : f = g := by
  apply BitVec.eq_of_getLsbD_eq
  intro b hb
  have hj : m - 1 - b / 32 < m := by omega
  have hw := congrArg (fun w => w.getLsbD (b % 32)) (h _ hj)
  simp only [getLsbD_wordOf, wordShift] at hw
  have e : 32 * (m - 1 - (m - 1 - b / 32)) + b % 32 = b := by omega
  rw [e] at hw
  simpa [Nat.mod_lt] using hw

theorem getElem_splitRecord (r : Record) (i : Nat) (h : i < 24) : (splitRecord r)[i] = group r i := by
  unfold splitRecord
  simp

/-- The bits of a string built group by group: the last group lowest, the start above all groups. -/
theorem getLsbD_foldl_groups (gs : List Index) (r : Record) (b : Nat) (hb : b < 264) :
    (gs.foldl (fun (r : Record) (g : Index) => (r <<< 11) ||| g.setWidth 264) r).getLsbD b =
      if b < 11 * gs.length then (gs.getD (gs.length - 1 - b / 11) 0#11).getLsbD (b % 11)
      else r.getLsbD (b - 11 * gs.length) := by
  induction gs generalizing r with
  | nil => simp
  | cons g gs ih =>
    rw [List.foldl_cons, ih, List.length_cons]
    by_cases h1 : b < 11 * gs.length
    · have h2 : b < 11 * (gs.length + 1) := by omega
      have h3 : gs.length + 1 - 1 - b / 11 = (gs.length - 1 - b / 11) + 1 := by omega
      rw [if_pos h1, if_pos h2, h3, List.getD_cons_succ]
    · rw [if_neg h1, BitVec.getLsbD_or, BitVec.getLsbD_shiftLeft, BitVec.getLsbD_setWidth]
      have h3 : b - 11 * gs.length < 264 := by omega
      by_cases h2 : b < 11 * (gs.length + 1)
      · have h4 : gs.length + 1 - 1 - b / 11 = 0 := by omega
        have h5 : b - 11 * gs.length = b % 11 := by omega
        have h6 : b % 11 < 11 := Nat.mod_lt _ (by omega)
        have h7 : b % 11 < 264 := by omega
        rw [if_pos h2, h4, List.getD_cons_zero, h5]
        simp [h6, h7]
      · have h4 : ¬ b - 11 * gs.length < 11 := by omega
        have h5 : b - 11 * gs.length - 11 = b - 11 * (gs.length + 1) := by omega
        have h6 : g.getLsbD (b - 11 * gs.length) = false := BitVec.getLsbD_of_ge _ _ (by omega)
        rw [if_neg h2]
        simp [h3, h4, h5, h6]

/-- Bit `b` of the joined record lies in index `23 - b / 11`, counted from its low end (R77, R143). -/
theorem getLsbD_joinIndices (v : Vector Index 24) (b : Nat) (hb : b < 264) :
    (joinIndices v).getLsbD b = (v[23 - b / 11]'(by omega)).getLsbD (b % 11) := by
  have hl : v.toList.length = 24 := by simp
  have h1 : b < 11 * v.toList.length := by omega
  have h2 : 23 - b / 11 < v.toList.length := by omega
  rw [joinIndices, getLsbD_foldl_groups _ _ _ hb, if_pos h1, hl, List.getD_eq_getElem _ _ h2]
  simp

/-- Cutting a record into its groups and joining them gives the record back (R145). -/
theorem joinIndices_splitRecord (r : Record) : joinIndices (splitRecord r) = r := by
  apply BitVec.eq_of_getLsbD_eq
  intro b hb
  have h1 : b % 11 < 11 := Nat.mod_lt _ (by omega)
  have h2 : 253 - 11 * (23 - b / 11) + b % 11 = b := by omega
  rw [getLsbD_joinIndices _ _ hb, getElem_splitRecord, group, BitVec.getLsbD_extractLsb', h2]
  simp [h1]

/-- Joining 24 indices and cutting the result gives the indices back (R145). -/
theorem splitRecord_joinIndices (v : Vector Index 24) : splitRecord (joinIndices v) = v := by
  apply Vector.ext
  intro i hi
  rw [getElem_splitRecord]
  apply BitVec.eq_of_getLsbD_eq
  intro b hb
  have h1 : 253 - 11 * i + b < 264 := by omega
  have h2 : 23 - (253 - 11 * i + b) / 11 = i := by omega
  have h3 : (253 - 11 * i + b) % 11 = b := by omega
  rw [group, BitVec.getLsbD_extractLsb', getLsbD_joinIndices _ _ h1]
  simp only [h2, h3, hb, decide_true, Bool.true_and]

/-- The four fields of a record, joined, are the record (R75). -/
theorem record_of_fields (r : Record) : (recVer r ++ recCt r ++ recSalt r ++ recCk r : Record) = r := by
  apply BitVec.eq_of_getLsbD_eq
  intro b hb
  simp only [recVer, recCt, recSalt, recCk, BitVec.getLsbD_append, BitVec.getLsbD_extractLsb']
  by_cases h1 : b < 32
  · simp [h1]
  · by_cases h2 : b - 32 < 80
    · simp [h1, h2, show 32 + (b - 32) = b by omega]
    · by_cases h3 : b - 32 - 80 < 144
      · simp [h1, h2, h3, show 112 + (b - 32 - 80) = b by omega]
      · simp [h1, h2, h3, show b - 32 - 80 - 144 < 8 by omega, show 256 + (b - 32 - 80 - 144) = b by omega]

/-! ### The fields of a record or a plaintext that was put together from them (R75, R76) -/

theorem recVer_append (v : Version) (c : Text) (n : Salt) (k : Checksum) :
    recVer (v ++ c ++ n ++ k : Record) = v := by
  apply BitVec.eq_of_getLsbD_eq
  intro b hb
  simp only [recVer, BitVec.getLsbD_extractLsb', BitVec.getLsbD_append]
  simp [hb, show ¬ 256 + b < 32 by omega, show ¬ 256 + b - 32 < 80 by omega,
    show ¬ 256 + b - 32 - 80 < 144 by omega, show 256 + b - 32 - 80 - 144 = b by omega]

theorem recCt_append (v : Version) (c : Text) (n : Salt) (k : Checksum) :
    recCt (v ++ c ++ n ++ k : Record) = c := by
  apply BitVec.eq_of_getLsbD_eq
  intro b hb
  simp only [recCt, BitVec.getLsbD_extractLsb', BitVec.getLsbD_append]
  simp [hb, show ¬ 112 + b < 32 by omega, show ¬ 112 + b - 32 < 80 by omega,
    show 112 + b - 32 - 80 = b by omega]

theorem recSalt_append (v : Version) (c : Text) (n : Salt) (k : Checksum) :
    recSalt (v ++ c ++ n ++ k : Record) = n := by
  apply BitVec.eq_of_getLsbD_eq
  intro b hb
  simp only [recSalt, BitVec.getLsbD_extractLsb', BitVec.getLsbD_append]
  simp [hb, show 32 + b - 32 = b by omega]

theorem recCk_append (v : Version) (c : Text) (n : Salt) (k : Checksum) :
    recCk (v ++ c ++ n ++ k : Record) = k := by
  apply BitVec.eq_of_getLsbD_eq
  intro b hb
  simp only [recCk, BitVec.getLsbD_extractLsb', BitVec.getLsbD_append]
  simp [hb]

theorem ptBday_append (b : Birthday) (e : Entropy) : ptBday (b ++ e : Text) = b := by
  apply BitVec.eq_of_getLsbD_eq
  intro i hi
  simp only [ptBday, BitVec.getLsbD_extractLsb', BitVec.getLsbD_append]
  simp [hi]

theorem ptEnt_append (b : Birthday) (e : Entropy) : ptEnt (b ++ e : Text) = e := by
  apply BitVec.eq_of_getLsbD_eq
  intro i hi
  simp only [ptEnt, BitVec.getLsbD_extractLsb', BitVec.getLsbD_append]
  simp [hi]

end Sys2Proof.Machine
end

