-- ==== Sys2Proof/Laws/State.lean ====
section
/-! SUPPORT. One lemma per field per update of the state, each true by `rfl`, so that no later proof unfolds a
record update; and what reset leaves in each field. -/

namespace Sys2Proof.Machine

@[simp] theorem State.reset_idx : State.reset.idx = Vector.replicate 24 0#11 := rfl
@[simp] theorem State.reset_wcnt : State.reset.wcnt = 0#5 := rfl
@[simp] theorem State.reset_badv : State.reset.badv = false := rfl
@[simp] theorem State.reset_badpos : State.reset.badpos = 0#5 := rfl
@[simp] theorem State.reset_ver : State.reset.ver = 0#8 := rfl
@[simp] theorem State.reset_ct : State.reset.ct = 0#144 := rfl
@[simp] theorem State.reset_salt : State.reset.salt = 0#80 := rfl
@[simp] theorem State.reset_ck : State.reset.ck = 0#32 := rfl
@[simp] theorem State.reset_bday : State.reset.bday = 0#16 := rfl
@[simp] theorem State.reset_ent : State.reset.ent = 0#128 := rfl
@[simp] theorem State.reset_key : State.reset.key = 0#256 := rfl
@[simp] theorem State.reset_kmask : State.reset.kmask = 0#8 := rfl
@[simp] theorem State.reset_vfy : State.reset.vfy = false := rfl
@[simp] theorem State.reset_ptv : State.reset.ptv = false := rfl
@[simp] theorem State.reset_err : State.reset.err = .ok := rfl
@[simp] theorem State.reset_script : State.reset.script = [] := rfl
@[simp] theorem State.reset_reply : State.reset.reply = none := rfl

@[simp] theorem State.setErr_idx (s : State) (c : ResultCode) : (s.setErr c).idx = s.idx := rfl
@[simp] theorem State.setErr_wcnt (s : State) (c : ResultCode) : (s.setErr c).wcnt = s.wcnt := rfl
@[simp] theorem State.setErr_badv (s : State) (c : ResultCode) : (s.setErr c).badv = s.badv := rfl
@[simp] theorem State.setErr_badpos (s : State) (c : ResultCode) : (s.setErr c).badpos = s.badpos := rfl
@[simp] theorem State.setErr_ver (s : State) (c : ResultCode) : (s.setErr c).ver = s.ver := rfl
@[simp] theorem State.setErr_ct (s : State) (c : ResultCode) : (s.setErr c).ct = s.ct := rfl
@[simp] theorem State.setErr_salt (s : State) (c : ResultCode) : (s.setErr c).salt = s.salt := rfl
@[simp] theorem State.setErr_ck (s : State) (c : ResultCode) : (s.setErr c).ck = s.ck := rfl
@[simp] theorem State.setErr_bday (s : State) (c : ResultCode) : (s.setErr c).bday = s.bday := rfl
@[simp] theorem State.setErr_ent (s : State) (c : ResultCode) : (s.setErr c).ent = s.ent := rfl
@[simp] theorem State.setErr_key (s : State) (c : ResultCode) : (s.setErr c).key = s.key := rfl
@[simp] theorem State.setErr_kmask (s : State) (c : ResultCode) : (s.setErr c).kmask = s.kmask := rfl
@[simp] theorem State.setErr_vfy (s : State) (c : ResultCode) : (s.setErr c).vfy = s.vfy := rfl
@[simp] theorem State.setErr_ptv (s : State) (c : ResultCode) : (s.setErr c).ptv = s.ptv := rfl
@[simp] theorem State.setErr_err (s : State) (c : ResultCode) : (s.setErr c).err = c := rfl
@[simp] theorem State.setErr_script (s : State) (c : ResultCode) : (s.setErr c).script = s.script := rfl
@[simp] theorem State.setErr_reply (s : State) (c : ResultCode) : (s.setErr c).reply = s.reply := rfl

@[simp] theorem State.clearVfy_idx (s : State) : (s.clearVfy).idx = s.idx := rfl
@[simp] theorem State.clearVfy_wcnt (s : State) : (s.clearVfy).wcnt = s.wcnt := rfl
@[simp] theorem State.clearVfy_badv (s : State) : (s.clearVfy).badv = s.badv := rfl
@[simp] theorem State.clearVfy_badpos (s : State) : (s.clearVfy).badpos = s.badpos := rfl
@[simp] theorem State.clearVfy_ver (s : State) : (s.clearVfy).ver = s.ver := rfl
@[simp] theorem State.clearVfy_ct (s : State) : (s.clearVfy).ct = s.ct := rfl
@[simp] theorem State.clearVfy_salt (s : State) : (s.clearVfy).salt = s.salt := rfl
@[simp] theorem State.clearVfy_ck (s : State) : (s.clearVfy).ck = s.ck := rfl
@[simp] theorem State.clearVfy_bday (s : State) : (s.clearVfy).bday = s.bday := rfl
@[simp] theorem State.clearVfy_ent (s : State) : (s.clearVfy).ent = s.ent := rfl
@[simp] theorem State.clearVfy_key (s : State) : (s.clearVfy).key = s.key := rfl
@[simp] theorem State.clearVfy_kmask (s : State) : (s.clearVfy).kmask = s.kmask := rfl
@[simp] theorem State.clearVfy_vfy (s : State) : (s.clearVfy).vfy = false := rfl
@[simp] theorem State.clearVfy_ptv (s : State) : (s.clearVfy).ptv = s.ptv := rfl
@[simp] theorem State.clearVfy_err (s : State) : (s.clearVfy).err = s.err := rfl
@[simp] theorem State.clearVfy_script (s : State) : (s.clearVfy).script = s.script := rfl
@[simp] theorem State.clearVfy_reply (s : State) : (s.clearVfy).reply = s.reply := rfl

@[simp] theorem State.setVfy_idx (s : State) : (s.setVfy).idx = s.idx := rfl
@[simp] theorem State.setVfy_wcnt (s : State) : (s.setVfy).wcnt = s.wcnt := rfl
@[simp] theorem State.setVfy_badv (s : State) : (s.setVfy).badv = s.badv := rfl
@[simp] theorem State.setVfy_badpos (s : State) : (s.setVfy).badpos = s.badpos := rfl
@[simp] theorem State.setVfy_ver (s : State) : (s.setVfy).ver = s.ver := rfl
@[simp] theorem State.setVfy_ct (s : State) : (s.setVfy).ct = s.ct := rfl
@[simp] theorem State.setVfy_salt (s : State) : (s.setVfy).salt = s.salt := rfl
@[simp] theorem State.setVfy_ck (s : State) : (s.setVfy).ck = s.ck := rfl
@[simp] theorem State.setVfy_bday (s : State) : (s.setVfy).bday = s.bday := rfl
@[simp] theorem State.setVfy_ent (s : State) : (s.setVfy).ent = s.ent := rfl
@[simp] theorem State.setVfy_key (s : State) : (s.setVfy).key = s.key := rfl
@[simp] theorem State.setVfy_kmask (s : State) : (s.setVfy).kmask = s.kmask := rfl
@[simp] theorem State.setVfy_vfy (s : State) : (s.setVfy).vfy = true := rfl
@[simp] theorem State.setVfy_ptv (s : State) : (s.setVfy).ptv = s.ptv := rfl
@[simp] theorem State.setVfy_err (s : State) : (s.setVfy).err = s.err := rfl
@[simp] theorem State.setVfy_script (s : State) : (s.setVfy).script = s.script := rfl
@[simp] theorem State.setVfy_reply (s : State) : (s.setVfy).reply = s.reply := rfl

@[simp] theorem State.dropPlaintext_idx (s : State) : (s.dropPlaintext).idx = s.idx := rfl
@[simp] theorem State.dropPlaintext_wcnt (s : State) : (s.dropPlaintext).wcnt = s.wcnt := rfl
@[simp] theorem State.dropPlaintext_badv (s : State) : (s.dropPlaintext).badv = s.badv := rfl
@[simp] theorem State.dropPlaintext_badpos (s : State) : (s.dropPlaintext).badpos = s.badpos := rfl
@[simp] theorem State.dropPlaintext_ver (s : State) : (s.dropPlaintext).ver = s.ver := rfl
@[simp] theorem State.dropPlaintext_ct (s : State) : (s.dropPlaintext).ct = s.ct := rfl
@[simp] theorem State.dropPlaintext_salt (s : State) : (s.dropPlaintext).salt = s.salt := rfl
@[simp] theorem State.dropPlaintext_ck (s : State) : (s.dropPlaintext).ck = s.ck := rfl
@[simp] theorem State.dropPlaintext_bday (s : State) : (s.dropPlaintext).bday = 0#16 := rfl
@[simp] theorem State.dropPlaintext_ent (s : State) : (s.dropPlaintext).ent = 0#128 := rfl
@[simp] theorem State.dropPlaintext_key (s : State) : (s.dropPlaintext).key = s.key := rfl
@[simp] theorem State.dropPlaintext_kmask (s : State) : (s.dropPlaintext).kmask = s.kmask := rfl
@[simp] theorem State.dropPlaintext_vfy (s : State) : (s.dropPlaintext).vfy = s.vfy := rfl
@[simp] theorem State.dropPlaintext_ptv (s : State) : (s.dropPlaintext).ptv = false := rfl
@[simp] theorem State.dropPlaintext_err (s : State) : (s.dropPlaintext).err = s.err := rfl
@[simp] theorem State.dropPlaintext_script (s : State) : (s.dropPlaintext).script = s.script := rfl
@[simp] theorem State.dropPlaintext_reply (s : State) : (s.dropPlaintext).reply = s.reply := rfl

@[simp] theorem State.writeSalt_idx (s : State) (n : Salt) : (s.writeSalt n).idx = s.idx := rfl
@[simp] theorem State.writeSalt_wcnt (s : State) (n : Salt) : (s.writeSalt n).wcnt = s.wcnt := rfl
@[simp] theorem State.writeSalt_badv (s : State) (n : Salt) : (s.writeSalt n).badv = s.badv := rfl
@[simp] theorem State.writeSalt_badpos (s : State) (n : Salt) : (s.writeSalt n).badpos = s.badpos := rfl
@[simp] theorem State.writeSalt_ver (s : State) (n : Salt) : (s.writeSalt n).ver = s.ver := rfl
@[simp] theorem State.writeSalt_ct (s : State) (n : Salt) : (s.writeSalt n).ct = s.ct := rfl
@[simp] theorem State.writeSalt_salt (s : State) (n : Salt) : (s.writeSalt n).salt = n := rfl
@[simp] theorem State.writeSalt_ck (s : State) (n : Salt) : (s.writeSalt n).ck = s.ck := rfl
@[simp] theorem State.writeSalt_bday (s : State) (n : Salt) : (s.writeSalt n).bday = s.bday := rfl
@[simp] theorem State.writeSalt_ent (s : State) (n : Salt) : (s.writeSalt n).ent = s.ent := rfl
@[simp] theorem State.writeSalt_key (s : State) (n : Salt) : (s.writeSalt n).key = 0#256 := rfl
@[simp] theorem State.writeSalt_kmask (s : State) (n : Salt) : (s.writeSalt n).kmask = 0#8 := rfl
@[simp] theorem State.writeSalt_vfy (s : State) (n : Salt) : (s.writeSalt n).vfy = false := rfl
@[simp] theorem State.writeSalt_ptv (s : State) (n : Salt) : (s.writeSalt n).ptv = s.ptv := rfl
@[simp] theorem State.writeSalt_err (s : State) (n : Salt) : (s.writeSalt n).err = s.err := rfl
@[simp] theorem State.writeSalt_script (s : State) (n : Salt) : (s.writeSalt n).script = s.script := rfl
@[simp] theorem State.writeSalt_reply (s : State) (n : Salt) : (s.writeSalt n).reply = s.reply := rfl

@[simp] theorem State.loadRecord_idx (s : State) (r : Record) : (s.loadRecord r).idx = s.idx := rfl
@[simp] theorem State.loadRecord_wcnt (s : State) (r : Record) : (s.loadRecord r).wcnt = s.wcnt := rfl
@[simp] theorem State.loadRecord_badv (s : State) (r : Record) : (s.loadRecord r).badv = s.badv := rfl
@[simp] theorem State.loadRecord_badpos (s : State) (r : Record) : (s.loadRecord r).badpos = s.badpos := rfl
@[simp] theorem State.loadRecord_ver (s : State) (r : Record) : (s.loadRecord r).ver = recVer r := rfl
@[simp] theorem State.loadRecord_ct (s : State) (r : Record) : (s.loadRecord r).ct = recCt r := rfl
@[simp] theorem State.loadRecord_salt (s : State) (r : Record) : (s.loadRecord r).salt = recSalt r := rfl
@[simp] theorem State.loadRecord_ck (s : State) (r : Record) : (s.loadRecord r).ck = recCk r := rfl
@[simp] theorem State.loadRecord_bday (s : State) (r : Record) : (s.loadRecord r).bday = s.bday := rfl
@[simp] theorem State.loadRecord_ent (s : State) (r : Record) : (s.loadRecord r).ent = s.ent := rfl
@[simp] theorem State.loadRecord_key (s : State) (r : Record) : (s.loadRecord r).key = 0#256 := rfl
@[simp] theorem State.loadRecord_kmask (s : State) (r : Record) : (s.loadRecord r).kmask = 0#8 := rfl
@[simp] theorem State.loadRecord_vfy (s : State) (r : Record) : (s.loadRecord r).vfy = false := rfl
@[simp] theorem State.loadRecord_ptv (s : State) (r : Record) : (s.loadRecord r).ptv = s.ptv := rfl
@[simp] theorem State.loadRecord_err (s : State) (r : Record) : (s.loadRecord r).err = s.err := rfl
@[simp] theorem State.loadRecord_script (s : State) (r : Record) : (s.loadRecord r).script = s.script := rfl
@[simp] theorem State.loadRecord_reply (s : State) (r : Record) : (s.loadRecord r).reply = s.reply := rfl

@[simp] theorem State.fillIndices_idx (s : State) (v : Vector Index 24) : (s.fillIndices v).idx = v := rfl
@[simp] theorem State.fillIndices_wcnt (s : State) (v : Vector Index 24) : (s.fillIndices v).wcnt = 24#5 := rfl
@[simp] theorem State.fillIndices_badv (s : State) (v : Vector Index 24) : (s.fillIndices v).badv = false := rfl
@[simp] theorem State.fillIndices_badpos (s : State) (v : Vector Index 24) : (s.fillIndices v).badpos = 0#5 := rfl
@[simp] theorem State.fillIndices_ver (s : State) (v : Vector Index 24) : (s.fillIndices v).ver = s.ver := rfl
@[simp] theorem State.fillIndices_ct (s : State) (v : Vector Index 24) : (s.fillIndices v).ct = s.ct := rfl
@[simp] theorem State.fillIndices_salt (s : State) (v : Vector Index 24) : (s.fillIndices v).salt = s.salt := rfl
@[simp] theorem State.fillIndices_ck (s : State) (v : Vector Index 24) : (s.fillIndices v).ck = s.ck := rfl
@[simp] theorem State.fillIndices_bday (s : State) (v : Vector Index 24) : (s.fillIndices v).bday = s.bday := rfl
@[simp] theorem State.fillIndices_ent (s : State) (v : Vector Index 24) : (s.fillIndices v).ent = s.ent := rfl
@[simp] theorem State.fillIndices_key (s : State) (v : Vector Index 24) : (s.fillIndices v).key = s.key := rfl
@[simp] theorem State.fillIndices_kmask (s : State) (v : Vector Index 24) : (s.fillIndices v).kmask = s.kmask := rfl
@[simp] theorem State.fillIndices_vfy (s : State) (v : Vector Index 24) : (s.fillIndices v).vfy = s.vfy := rfl
@[simp] theorem State.fillIndices_ptv (s : State) (v : Vector Index 24) : (s.fillIndices v).ptv = s.ptv := rfl
@[simp] theorem State.fillIndices_err (s : State) (v : Vector Index 24) : (s.fillIndices v).err = s.err := rfl
@[simp] theorem State.fillIndices_script (s : State) (v : Vector Index 24) : (s.fillIndices v).script = s.script := rfl
@[simp] theorem State.fillIndices_reply (s : State) (v : Vector Index 24) : (s.fillIndices v).reply = s.reply := rfl

@[simp] theorem State.clearIndices_idx (s : State) : (s.clearIndices).idx = Vector.replicate 24 0#11 := rfl
@[simp] theorem State.clearIndices_wcnt (s : State) : (s.clearIndices).wcnt = 0#5 := rfl
@[simp] theorem State.clearIndices_badv (s : State) : (s.clearIndices).badv = false := rfl
@[simp] theorem State.clearIndices_badpos (s : State) : (s.clearIndices).badpos = 0#5 := rfl
@[simp] theorem State.clearIndices_ver (s : State) : (s.clearIndices).ver = s.ver := rfl
@[simp] theorem State.clearIndices_ct (s : State) : (s.clearIndices).ct = s.ct := rfl
@[simp] theorem State.clearIndices_salt (s : State) : (s.clearIndices).salt = s.salt := rfl
@[simp] theorem State.clearIndices_ck (s : State) : (s.clearIndices).ck = s.ck := rfl
@[simp] theorem State.clearIndices_bday (s : State) : (s.clearIndices).bday = s.bday := rfl
@[simp] theorem State.clearIndices_ent (s : State) : (s.clearIndices).ent = s.ent := rfl
@[simp] theorem State.clearIndices_key (s : State) : (s.clearIndices).key = s.key := rfl
@[simp] theorem State.clearIndices_kmask (s : State) : (s.clearIndices).kmask = s.kmask := rfl
@[simp] theorem State.clearIndices_vfy (s : State) : (s.clearIndices).vfy = s.vfy := rfl
@[simp] theorem State.clearIndices_ptv (s : State) : (s.clearIndices).ptv = s.ptv := rfl
@[simp] theorem State.clearIndices_err (s : State) : (s.clearIndices).err = s.err := rfl
@[simp] theorem State.clearIndices_script (s : State) : (s.clearIndices).script = s.script := rfl
@[simp] theorem State.clearIndices_reply (s : State) : (s.clearIndices).reply = s.reply := rfl

@[simp] theorem State.deliver_idx (s : State) (p : Text) : (s.deliver p).idx = s.idx := rfl
@[simp] theorem State.deliver_wcnt (s : State) (p : Text) : (s.deliver p).wcnt = s.wcnt := rfl
@[simp] theorem State.deliver_badv (s : State) (p : Text) : (s.deliver p).badv = s.badv := rfl
@[simp] theorem State.deliver_badpos (s : State) (p : Text) : (s.deliver p).badpos = s.badpos := rfl
@[simp] theorem State.deliver_ver (s : State) (p : Text) : (s.deliver p).ver = s.ver := rfl
@[simp] theorem State.deliver_ct (s : State) (p : Text) : (s.deliver p).ct = s.ct := rfl
@[simp] theorem State.deliver_salt (s : State) (p : Text) : (s.deliver p).salt = s.salt := rfl
@[simp] theorem State.deliver_ck (s : State) (p : Text) : (s.deliver p).ck = s.ck := rfl
@[simp] theorem State.deliver_bday (s : State) (p : Text) : (s.deliver p).bday = ptBday p := rfl
@[simp] theorem State.deliver_ent (s : State) (p : Text) : (s.deliver p).ent = ptEnt p := rfl
@[simp] theorem State.deliver_key (s : State) (p : Text) : (s.deliver p).key = s.key := rfl
@[simp] theorem State.deliver_kmask (s : State) (p : Text) : (s.deliver p).kmask = s.kmask := rfl
@[simp] theorem State.deliver_vfy (s : State) (p : Text) : (s.deliver p).vfy = s.vfy := rfl
@[simp] theorem State.deliver_ptv (s : State) (p : Text) : (s.deliver p).ptv = true := rfl
@[simp] theorem State.deliver_err (s : State) (p : Text) : (s.deliver p).err = s.err := rfl
@[simp] theorem State.deliver_script (s : State) (p : Text) : (s.deliver p).script = s.script := rfl
@[simp] theorem State.deliver_reply (s : State) (p : Text) : (s.deliver p).reply = s.reply := rfl

@[simp] theorem State.answer_idx (s : State) (r : Reply) : (s.answer r).idx = s.idx := rfl
@[simp] theorem State.answer_wcnt (s : State) (r : Reply) : (s.answer r).wcnt = s.wcnt := rfl
@[simp] theorem State.answer_badv (s : State) (r : Reply) : (s.answer r).badv = s.badv := rfl
@[simp] theorem State.answer_badpos (s : State) (r : Reply) : (s.answer r).badpos = s.badpos := rfl
@[simp] theorem State.answer_ver (s : State) (r : Reply) : (s.answer r).ver = s.ver := rfl
@[simp] theorem State.answer_ct (s : State) (r : Reply) : (s.answer r).ct = s.ct := rfl
@[simp] theorem State.answer_salt (s : State) (r : Reply) : (s.answer r).salt = s.salt := rfl
@[simp] theorem State.answer_ck (s : State) (r : Reply) : (s.answer r).ck = s.ck := rfl
@[simp] theorem State.answer_bday (s : State) (r : Reply) : (s.answer r).bday = s.bday := rfl
@[simp] theorem State.answer_ent (s : State) (r : Reply) : (s.answer r).ent = s.ent := rfl
@[simp] theorem State.answer_key (s : State) (r : Reply) : (s.answer r).key = s.key := rfl
@[simp] theorem State.answer_kmask (s : State) (r : Reply) : (s.answer r).kmask = s.kmask := rfl
@[simp] theorem State.answer_vfy (s : State) (r : Reply) : (s.answer r).vfy = s.vfy := rfl
@[simp] theorem State.answer_ptv (s : State) (r : Reply) : (s.answer r).ptv = s.ptv := rfl
@[simp] theorem State.answer_err (s : State) (r : Reply) : (s.answer r).err = s.err := rfl
@[simp] theorem State.answer_script (s : State) (r : Reply) : (s.answer r).script = s.script := rfl
@[simp] theorem State.answer_reply (s : State) (r : Reply) : (s.answer r).reply = some r := rfl

@[simp] theorem State.allZero_idx (s : State) : (s.allZero).idx = State.reset.idx := rfl
@[simp] theorem State.allZero_wcnt (s : State) : (s.allZero).wcnt = State.reset.wcnt := rfl
@[simp] theorem State.allZero_badv (s : State) : (s.allZero).badv = State.reset.badv := rfl
@[simp] theorem State.allZero_badpos (s : State) : (s.allZero).badpos = State.reset.badpos := rfl
@[simp] theorem State.allZero_ver (s : State) : (s.allZero).ver = State.reset.ver := rfl
@[simp] theorem State.allZero_ct (s : State) : (s.allZero).ct = State.reset.ct := rfl
@[simp] theorem State.allZero_salt (s : State) : (s.allZero).salt = State.reset.salt := rfl
@[simp] theorem State.allZero_ck (s : State) : (s.allZero).ck = State.reset.ck := rfl
@[simp] theorem State.allZero_bday (s : State) : (s.allZero).bday = State.reset.bday := rfl
@[simp] theorem State.allZero_ent (s : State) : (s.allZero).ent = State.reset.ent := rfl
@[simp] theorem State.allZero_key (s : State) : (s.allZero).key = State.reset.key := rfl
@[simp] theorem State.allZero_kmask (s : State) : (s.allZero).kmask = State.reset.kmask := rfl
@[simp] theorem State.allZero_vfy (s : State) : (s.allZero).vfy = State.reset.vfy := rfl
@[simp] theorem State.allZero_ptv (s : State) : (s.allZero).ptv = State.reset.ptv := rfl
@[simp] theorem State.allZero_err (s : State) : (s.allZero).err = State.reset.err := rfl
@[simp] theorem State.allZero_script (s : State) : (s.allZero).script = s.script := rfl
@[simp] theorem State.allZero_reply (s : State) : (s.allZero).reply = s.reply := rfl

@[simp] theorem State.hardReset_idx (s : State) : (s.hardReset).idx = State.reset.idx := rfl
@[simp] theorem State.hardReset_wcnt (s : State) : (s.hardReset).wcnt = State.reset.wcnt := rfl
@[simp] theorem State.hardReset_badv (s : State) : (s.hardReset).badv = State.reset.badv := rfl
@[simp] theorem State.hardReset_badpos (s : State) : (s.hardReset).badpos = State.reset.badpos := rfl
@[simp] theorem State.hardReset_ver (s : State) : (s.hardReset).ver = State.reset.ver := rfl
@[simp] theorem State.hardReset_ct (s : State) : (s.hardReset).ct = State.reset.ct := rfl
@[simp] theorem State.hardReset_salt (s : State) : (s.hardReset).salt = State.reset.salt := rfl
@[simp] theorem State.hardReset_ck (s : State) : (s.hardReset).ck = State.reset.ck := rfl
@[simp] theorem State.hardReset_bday (s : State) : (s.hardReset).bday = State.reset.bday := rfl
@[simp] theorem State.hardReset_ent (s : State) : (s.hardReset).ent = State.reset.ent := rfl
@[simp] theorem State.hardReset_key (s : State) : (s.hardReset).key = State.reset.key := rfl
@[simp] theorem State.hardReset_kmask (s : State) : (s.hardReset).kmask = State.reset.kmask := rfl
@[simp] theorem State.hardReset_vfy (s : State) : (s.hardReset).vfy = State.reset.vfy := rfl
@[simp] theorem State.hardReset_ptv (s : State) : (s.hardReset).ptv = State.reset.ptv := rfl
@[simp] theorem State.hardReset_err (s : State) : (s.hardReset).err = State.reset.err := rfl
@[simp] theorem State.hardReset_script (s : State) : (s.hardReset).script = s.script := rfl
@[simp] theorem State.hardReset_reply (s : State) : (s.hardReset).reply = State.reset.reply := rfl

end Sys2Proof.Machine
end

