-- ==== Sys2Proof/Laws/Ops.lean ====
section
/-! SUPPORT. What each shared operation can do, said once: how a command ends, what a push stores, and the cases of
the commands with a check in them. -/

namespace Sys2Proof.Machine

/-! ### How a command ends -/

theorem State.raise_of_failure (s : State) {c : ResultCode} (h : c.isDecodeFailure = true) :
    s.raise c = s.dropPlaintext.setErr c := by
  simp [State.raise, h]

theorem State.raise_of_no_failure (s : State) {c : ResultCode} (h : c.isDecodeFailure = false) :
    s.raise c = s.setErr c := by
  simp [State.raise, h]

@[simp] theorem State.raise_ok (s : State) : s.raise .ok = s.setErr .ok := rfl
@[simp] theorem State.raise_seq (s : State) : s.raise .seq = s.setErr .seq := rfl
@[simp] theorem State.raise_illegal (s : State) : s.raise .illegal = s.setErr .illegal := rfl
@[simp] theorem State.raise_wcount (s : State) : s.raise .wcount = s.dropPlaintext.setErr .wcount := rfl
@[simp] theorem State.raise_badword (s : State) : s.raise .badword = s.dropPlaintext.setErr .badword := rfl
@[simp] theorem State.raise_badver (s : State) : s.raise .badver = s.dropPlaintext.setErr .badver := rfl
@[simp] theorem State.raise_ckmis (s : State) : s.raise .ckmis = s.dropPlaintext.setErr .ckmis := rfl
@[simp] theorem State.raise_authfail (s : State) : s.raise .authfail = s.dropPlaintext.setErr .authfail := rfl

/-- Whatever the code, a command's end writes `ERR` to it. -/
theorem State.raise_err (s : State) (c : ResultCode) : (s.raise c).err = c := by
  cases c <;> rfl

theorem keyv_eq_true_iff (s : State) : s.keyv = true ↔ s.kmask = 0xFF#8 := by
  simp [State.keyv]

theorem keyv_eq_false_iff (s : State) : s.keyv = false ↔ s.kmask ≠ 0xFF#8 := by
  simp [State.keyv]

/-! ### The push -/

theorem pushedIndex_of_lt {v : Word} (h : v.toNat < 2048) : pushedIndex v = v.setWidth 11 := by
  simp [pushedIndex, h]

theorem pushedIndex_of_ge {v : Word} (h : 2048 ≤ v.toNat) : pushedIndex v = 0#11 := by
  simp [pushedIndex, Nat.not_lt.mpr h]

theorem push_of_full (v : Word) {s : State} (h : 24 ≤ s.wcnt.toNat) :
    push v s = { s with wcnt := 25#5 } := by
  simp [push, h]

theorem push_of_room (v : Word) {s : State} (h : s.wcnt.toNat < 24) :
    push v s =
      { s with
        idx := s.idx.setIfInBounds s.wcnt.toNat (pushedIndex v)
        wcnt := s.wcnt + 1#5
        badv := s.badv || decide (2048 ≤ v.toNat)
        badpos := if s.badv = false ∧ 2048 ≤ v.toNat then s.wcnt else s.badpos } := by
  simp [push, Nat.not_le.mpr h]

/-! ### The cases of the commands that test something -/

theorem unpack_cases (s : State) :
    (s.wcnt ≠ 24#5 ∧ unpack s = s.clearVfy.dropPlaintext.setErr .wcount) ∨
    (s.wcnt = 24#5 ∧ s.badv = true ∧ unpack s = s.clearVfy.dropPlaintext.setErr .badword) ∨
    (s.wcnt = 24#5 ∧ s.badv = false ∧ unpack s = (s.loadRecord (joinIndices s.idx)).setErr .ok) := by
  by_cases hc : s.wcnt = 24#5
  · cases hb : s.badv <;> simp [unpack, hc, hb]
  · simp [unpack, hc]

theorem verify_cases (cfg : Config) (s : State) :
    (s.ver ∉ cfg.vset ∧ verify cfg s = s.clearVfy.dropPlaintext.setErr .badver) ∨
    (s.ver ∈ cfg.vset ∧ cfg.ck s.body ≠ s.ck ∧ verify cfg s = s.clearVfy.dropPlaintext.setErr .ckmis) ∨
    (s.ver ∈ cfg.vset ∧ cfg.ck s.body = s.ck ∧ verify cfg s = s.setVfy.setErr .ok) := by
  by_cases hv : s.ver ∈ cfg.vset
  · by_cases hc : cfg.ck s.body = s.ck <;> simp [verify, hv, hc]
  · simp [verify, hv]

theorem encrypt_cases (cfg : Config) (s : State) :
    (s.kmask ≠ 0xFF#8 ∧ encrypt cfg s = s.setErr .seq) ∨
    (s.kmask = 0xFF#8 ∧ encrypt cfg s =
      { s with ct := cfg.enc s.key s.salt s.plaintext, vfy := false, err := .ok }) := by
  by_cases hk : s.kmask = 0xFF#8
  · exact .inr ⟨hk, by simp [encrypt, State.keyv, hk, State.setErr]⟩
  · exact .inl ⟨hk, by simp [encrypt, State.keyv, hk]⟩

theorem decrypt_cases (cfg : Config) (s : State) :
    (¬ (s.vfy = true ∧ s.kmask = 0xFF#8) ∧ decrypt cfg s = s.setErr .seq) ∨
    (s.vfy = true ∧ s.kmask = 0xFF#8 ∧ cfg.dec s.key s.salt s.ct = none ∧
      decrypt cfg s = s.dropPlaintext.setErr .authfail) ∨
    (s.vfy = true ∧ s.kmask = 0xFF#8 ∧ ∃ p, cfg.dec s.key s.salt s.ct = some p ∧
      decrypt cfg s = (s.deliver p).setErr .ok) := by
  by_cases hv : s.vfy = true
  · by_cases hk : s.kmask = 0xFF#8
    · cases hd : cfg.dec s.key s.salt s.ct with
      | none => exact .inr (.inl ⟨hv, hk, rfl, by simp [decrypt, State.keyv, hv, hk, hd]⟩)
      | some p => exact .inr (.inr ⟨hv, hk, p, rfl, by simp [decrypt, State.keyv, hv, hk, hd]⟩)
    · exact .inl ⟨fun h => hk h.2, by simp [decrypt, State.keyv, hk]⟩
  · exact .inl ⟨fun h => hv h.1, by simp [decrypt, hv]⟩

theorem openRecord_of_ok (cfg : Config) {s : State} (h : (unpack s).err = .ok) :
    openRecord cfg s = verify cfg (unpack s) := by
  simp [openRecord, h]

theorem openRecord_of_error (cfg : Config) {s : State} (h : (unpack s).err ≠ .ok) :
    openRecord cfg s = unpack s := by
  simp [openRecord, h]

theorem sealRecord_of_no_key (cfg : Config) {s : State} (h : s.kmask ≠ 0xFF#8) :
    sealRecord cfg s = s.setErr .seq := by
  simp [sealRecord, State.keyv, h]

theorem sealRecord_of_key (cfg : Config) {s : State} (h : s.kmask = 0xFF#8) :
    sealRecord cfg s = pack (ckgen cfg (encrypt cfg s)) := by
  simp [sealRecord, State.keyv, h, pack, State.setErr]

/-! ### Outcomes -/

@[simp] theorem mapNext_next (f : State → State) (s : State) : mapNext f (.next s) = .next (f s) := rfl

theorem mapNext_eq_next {f : State → State} {o : Host.Outcome State Fault Refusal} {t : State}
    (h : mapNext f o = .next t) : ∃ s, o = .next s ∧ t = f s := by
  cases o with
  | next s => exact ⟨s, rfl, by simpa [mapNext] using h.symm⟩
  | fault k => simp [mapNext] at h
  | refused r => simp [mapNext] at h

end Sys2Proof.Machine
end

