-- ==== Sys2Proof/Laws/PerInstr.lean ====
section
/-! SUPPORT. What holds of every command as syntax, one lemma per command: it is well formed, and its command word
has its reserved bits zero and its opcode at most `0x0A` (`30_encoding.md` rules R80, R84). -/

namespace Sys2Proof.Laws.LegalWord

/-- The command is well formed and its command word passes both checks of R80. -/
def Statement (i : Instr) : Prop :=
  i.wellFormed = true ∧ rsvField (encode i) = 0#24 ∧ (opField (encode i)).toNat ≤ 0x0A

theorem nop : Statement .nop := by unfold Statement; decide
theorem clrw : Statement .clrw := by unfold Statement; decide
theorem unpack : Statement .unpack := by unfold Statement; decide
theorem pack : Statement .pack := by unfold Statement; decide
theorem verify : Statement .verify := by unfold Statement; decide
theorem ckgen : Statement .ckgen := by unfold Statement; decide
theorem decrypt : Statement .decrypt := by unfold Statement; decide
theorem encrypt : Statement .encrypt := by unfold Statement; decide
theorem openRecord : Statement .openRecord := by unfold Statement; decide
theorem sealRecord : Statement .sealRecord := by unfold Statement; decide
theorem zeroize : Statement .zeroize := by unfold Statement; decide

end Sys2Proof.Laws.LegalWord
end

