-- ==== Sys2Proof/Laws/Window.lean ====
section
/-! SUPPORT. The map of the window: every register is found at its own offset, and only there. -/

namespace Sys2Proof.Machine

theorem regAt_offset (r : Reg) : regAt r.offset = some r := by
  cases r with
  | ent j => revert j; decide
  | ct j => revert j; decide
  | salt j => revert j; decide
  | key j => revert j; decide
  | idx i => revert i; decide
  | _ => rfl

theorem offset_aligned (r : Reg) : r.offset.toNat % 4 = 0 := by
  cases r with
  | ent j => revert j; decide
  | ct j => revert j; decide
  | salt j => revert j; decide
  | key j => revert j; decide
  | idx i => revert i; decide
  | _ => rfl

/-- An aligned 32-bit access to a register that takes it is accepted (R52). -/
theorem checkAccess_offset (d : Dir) (r : Reg) (h : modeError d r.mode = none) :
    checkAccess d r.offset 4 = .ok r := by
  simp [checkAccess, offset_aligned, regAt_offset, h]

/-- An aligned 32-bit access to a register that does not take it is refused by name (R52). -/
theorem checkAccess_offset_error (d : Dir) (r : Reg) {k : Fault} (h : modeError d r.mode = some k) :
    checkAccess d r.offset 4 = .error k := by
  simp [checkAccess, offset_aligned, regAt_offset, h]

theorem checkAccess_misaligned (d : Dir) (a : Offset) (size : Nat) (h : size ≠ 4 ∨ a.toNat % 4 ≠ 0) :
    checkAccess d a size = .error .misaligned := by
  simp only [checkAccess, if_pos h]

/-- What an accepted access says of its offset (R52). -/
theorem checkAccess_ok {d : Dir} {a : Offset} {size : Nat} {r : Reg} (h : checkAccess d a size = .ok r) :
    size = 4 ∧ regAt a = some r ∧ modeError d r.mode = none := by
  unfold checkAccess at h
  split at h
  · cases h
  · split at h
    · cases h
    · split at h
      · cases h
      · cases h
        exact ⟨by omega, by assumption, by assumption⟩

end Sys2Proof.Machine
end

