-- ==== Sys2Proof/Laws/Step.lean ====
section
/-! SUPPORT. What a command, an access and a step can do, said once. -/

namespace Sys2Proof.Machine

/-- Every command answers a next state. -/
theorem exec_answers_next (i : Instr) (s : State) : ∃ t, exec i s = .next t := by
  cases i <;> exact ⟨_, rfl⟩

/-! ### No command touches the host's side of the bus -/

theorem unpack_host_side (s : State) : (unpack s).script = s.script ∧ (unpack s).reply = s.reply := by
  rcases unpack_cases s with ⟨_, e⟩ | ⟨_, _, e⟩ | ⟨_, _, e⟩ <;> rw [e] <;> simp

theorem verify_host_side (cfg : Config) (s : State) :
    (verify cfg s).script = s.script ∧ (verify cfg s).reply = s.reply := by
  rcases verify_cases cfg s with ⟨_, e⟩ | ⟨_, _, e⟩ | ⟨_, _, e⟩ <;> rw [e] <;> simp

theorem encrypt_host_side (cfg : Config) (s : State) :
    (encrypt cfg s).script = s.script ∧ (encrypt cfg s).reply = s.reply := by
  rcases encrypt_cases cfg s with ⟨_, e⟩ | ⟨_, e⟩ <;> rw [e] <;> simp

theorem decrypt_host_side (cfg : Config) (s : State) :
    (decrypt cfg s).script = s.script ∧ (decrypt cfg s).reply = s.reply := by
  rcases decrypt_cases cfg s with ⟨_, e⟩ | ⟨_, _, _, e⟩ | ⟨_, _, _, _, e⟩ <;> rw [e] <;> simp

theorem openRecord_host_side (cfg : Config) (s : State) :
    (openRecord cfg s).script = s.script ∧ (openRecord cfg s).reply = s.reply := by
  have hu := unpack_host_side s
  have hv := verify_host_side cfg (unpack s)
  unfold openRecord
  split
  · exact ⟨hv.1.trans hu.1, hv.2.trans hu.2⟩
  · exact hu

theorem sealRecord_host_side (cfg : Config) (s : State) :
    (sealRecord cfg s).script = s.script ∧ (sealRecord cfg s).reply = s.reply := by
  by_cases h : s.kmask = 0xFF#8
  · rw [sealRecord_of_key cfg h]
    simpa [pack, ckgen] using encrypt_host_side cfg s
  · rw [sealRecord_of_no_key cfg h]
    simp

/-- A command leaves the script and the reply: they are no state of the CSB. -/
theorem exec_host_side {i : Instr} {s t : State} (h : exec i s = .next t) :
    t.script = s.script ∧ t.reply = s.reply := by
  have key : ∀ {u : State}, exec i s = .next u → u.script = s.script ∧ u.reply = s.reply →
      t.script = s.script ∧ t.reply = s.reply := by
    intro u hu hs
    have : u = t := by simpa using hu.symm.trans h
    rwa [← this]
  cases i with
  | nop => exact key (u := nop s) rfl (by simp [nop])
  | clrw => exact key (u := clrw s) rfl (by simp [clrw])
  | unpack => exact key (u := unpack s) rfl (unpack_host_side s)
  | pack => exact key (u := pack s) rfl (by simp [pack])
  | verify => exact key (u := verify csbConfig s) rfl (verify_host_side _ s)
  | ckgen => exact key (u := ckgen csbConfig s) rfl (by simp [ckgen])
  | decrypt => exact key (u := decrypt csbConfig s) rfl (decrypt_host_side _ s)
  | encrypt => exact key (u := encrypt csbConfig s) rfl (encrypt_host_side _ s)
  | openRecord => exact key (u := openRecord csbConfig s) rfl (openRecord_host_side _ s)
  | sealRecord => exact key (u := sealRecord csbConfig s) rfl (sealRecord_host_side _ s)
  | zeroize => exact key (u := zeroize s) rfl (by simp [zeroize])

/-! ### Accesses and steps -/

theorem runCommand_of_ok {w : Word} {i : Instr} (h : decode w = .ok i) (s : State) :
    runCommand w s = exec i s := by
  simp [runCommand, h]

theorem runCommand_of_error {w : Word} {e : IllegalWord} (h : decode w = .error e) (s : State) :
    runCommand w s = .next (s.setErr .illegal) := by
  simp [runCommand, h]

/-- A read leaves everything but the reply. -/
theorem busRead_cases (a : Offset) (size : Nat) (s : State) :
    (∃ k, checkAccess .read a size = .error k ∧ busRead a size s = s.answer (.error k)) ∨
    (∃ r, checkAccess .read a size = .ok r ∧ busRead a size s = s.answer (.data (readReg s r))) := by
  cases h : checkAccess .read a size with
  | error k => exact .inl ⟨k, rfl, by simp [busRead, h, State.busError]⟩
  | ok r => exact .inr ⟨r, rfl, by simp [busRead, h]⟩

theorem busWrite_cases (a : Offset) (size : Nat) (v : Word) (s : State) :
    (∃ k, checkAccess .write a size = .error k ∧ busWrite a size v s = .next (s.answer (.error k))) ∨
    (∃ r, checkAccess .write a size = .ok r ∧
      busWrite a size v s = mapNext (fun t => t.answer .written) (writeReg r v s)) := by
  cases h : checkAccess .write a size with
  | error k => exact .inl ⟨k, rfl, by simp [busWrite, h, State.busError]⟩
  | ok r => exact .inr ⟨r, rfl, by simp [busWrite, h]⟩

/-- An accepted write to a register answers `OKAY` around the register's own effect. -/
theorem busWrite_offset (r : Reg) (h : modeError .write r.mode = none) (v : Word) (s : State) :
    busWrite r.offset 4 v s = mapNext (fun t => t.answer .written) (writeReg r v s) := by
  simp [busWrite, checkAccess_offset _ _ h]

/-- An accepted read of a register returns its word. -/
theorem busRead_offset (r : Reg) (h : modeError .read r.mode = none) (s : State) :
    busRead r.offset 4 s = s.answer (.data (readReg s r)) := by
  simp [busRead, checkAccess_offset _ _ h]

theorem step_of_empty {s : State} (h : s.script = []) : step s = .next s := by
  simp [step, nextAct, h]

theorem step_of_cons {s : State} {e : HostEvent} {rest : List HostEvent} (h : s.script = e :: rest) :
    step s = serve e { s with script := rest } := by
  simp [step, nextAct, h]

/-- What a step can do: wait, read, write or reset. -/
theorem step_cases (s : State) :
    (s.script = [] ∧ step s = .next s) ∨
    (∃ a size rest, s.script = .read a size :: rest ∧
      step s = .next (busRead a size { s with script := rest })) ∨
    (∃ a size v rest, s.script = .write a size v :: rest ∧
      step s = busWrite a size v { s with script := rest }) ∨
    (∃ rest, s.script = .reset :: rest ∧ step s = .next { State.reset with script := rest }) := by
  cases h : s.script with
  | nil => exact .inl ⟨rfl, step_of_empty h⟩
  | cons e rest =>
    cases e with
    | read a size => exact .inr (.inl ⟨a, size, rest, rfl, step_of_cons h⟩)
    | write a size v => exact .inr (.inr (.inl ⟨a, size, v, rest, rfl, step_of_cons h⟩))
    | reset => exact .inr (.inr (.inr ⟨rest, rfl, step_of_cons h⟩))

/-! ### Runs -/

@[simp] theorem run_zero (s : State) : Host.Core.run Sys2Proof.core 0 s = .next s := rfl

/-- A run of one step more is the step and then the rest of the run. -/
theorem run_succ {s t : State} (k : Nat) (h : step s = .next t) :
    Host.Core.run Sys2Proof.core (k + 1) s = Host.Core.run Sys2Proof.core k t := by
  have h' : Sys2Proof.core.step s = .next t := h
  simp only [Host.Core.run, h']

end Sys2Proof.Machine
end

