-- ==== Sys2Proof/Tests/Slice0.lean ====
section
/-! SUPPORT. Tests: expected values are those of `95_test_vectors.md` or of the rule named, never the model's own
answer; then one witness for each statement that has hypotheses. -/

open Sys2Proof Sys2Proof.Machine

namespace Sys2Proof.Tests

/-! ### Helpers -/

/-- The test configuration's pad (`95_test_vectors.md` section 2). -/
def pad (k : Key) (n : Salt) : Text :=
  k.extractLsb' 112 144 ^^^ (k.extractLsb' 0 112).setWidth 144 ^^^ n.setWidth 144

/-- `CFG_TEST` (`95_test_vectors.md` section 2). -/
def cfgTest : Config where
  vset := [0x00#8]
  enc := fun k n p => p ^^^ pad k n
  dec := fun k n c => some (c ^^^ pad k n)
  ck := checksum

/-- A configuration whose `Dec` rejects everything (V16). -/
def cfgReject : Config := { cfgTest with dec := fun _ _ _ => none }

def k1 : Key := 0x000102030405060708090A0B0C0D0E0F101112131415161718191A1B1C1D1E1F#256
def s1 : Salt := 0xA0A1A2A3A4A5A6A7A8A9#80
def k2 : Key := 0xF0E0D0C0B0A090807060504030201000FFEEDDCCBBAA99887766554433221100#256
def s2 : Salt := 0x0123456789ABCDEF0123#80
def e2 : Entropy := 0x00112233445566778899AABBCCDDEEFF#128

/-- The reset state with a key loaded whole. -/
def keyed : State := { State.reset with key := k1, kmask := 0xFF#8 }

/-- The record of V3 in the registers. -/
def recordV3 : State :=
  { State.reset with ct := 0x0001020316161212BEBFB0B1B2B3B4B5A6A7#144, salt := s1, ck := 0xC68481C3#32 }

/-- The state after the host's act `e` (the state itself where a step does not answer a next state). -/
def after (s : State) (e : HostEvent) : State :=
  match step { s with script := [e] } with
  | .next t => t
  | .fault _ => s
  | .refused _ => s

/-- A write of a command word. -/
def cmdEvent (w : Word) : HostEvent := .write 0x00#8 4 w

/-! ### Well-formedness: a word that each check refuses (R80, R85) -/

theorem test_smoke_reserved_bit : reservedBitsZero 0x00000104#32 = false := by decide
theorem test_smoke_opcode : opcodeAssigned 0x0000000B#32 = false := by decide
theorem test_smoke_legal :
    legalCommand 0x80000000#32 = false ∧ legalCommand 0x000000FF#32 = false ∧ legalCommand 0x0000000A#32 = true := by
  decide

/-! ### Decoding: the words written out from R80 and R84 -/

theorem test_decode_nop : decode 0b00000000000000000000000000000000#32 = .ok .nop := by rfl
theorem test_decode_clrw : decode 0b00000000000000000000000000000001#32 = .ok .clrw := by rfl
theorem test_decode_unpack : decode 0b00000000000000000000000000000010#32 = .ok .unpack := by rfl
theorem test_decode_pack : decode 0b00000000000000000000000000000011#32 = .ok .pack := by rfl
theorem test_decode_verify : decode 0b00000000000000000000000000000100#32 = .ok .verify := by rfl
theorem test_decode_ckgen : decode 0b00000000000000000000000000000101#32 = .ok .ckgen := by rfl
theorem test_decode_decrypt : decode 0b00000000000000000000000000000110#32 = .ok .decrypt := by rfl
theorem test_decode_encrypt : decode 0b00000000000000000000000000000111#32 = .ok .encrypt := by rfl
theorem test_decode_open : decode 0b00000000000000000000000000001000#32 = .ok .openRecord := by rfl
theorem test_decode_seal : decode 0b00000000000000000000000000001001#32 = .ok .sealRecord := by rfl
theorem test_decode_zeroize : decode 0b00000000000000000000000000001010#32 = .ok .zeroize := by rfl
/-- V9: the illegal words. -/
theorem test_decode_illegal :
    decode 0x0000000B#32 = .error .unassignedOpcode ∧ decode 0x000000FF#32 = .error .unassignedOpcode ∧
    decode 0x00000100#32 = .error .reservedBits ∧ decode 0x00000104#32 = .error .reservedBits ∧
    decode 0x80000000#32 = .error .reservedBits ∧ decode 0xFFFFFFFF#32 = .error .reservedBits := by
  refine ⟨?_, ?_, ?_, ?_, ?_, ?_⟩ <;> rfl
theorem test_decode_table_word : decodeTableWord 32 0x9 = some .sealRecord ∧ decodeTableWord 32 0x109 = none := by
  decide

/-! ### Parameters (R6, R7) -/

theorem test_record_width :
    Config.verBits + Config.ctBits + Config.saltBits + Config.ckBits = Config.recBits ∧
    Config.recBits = Config.nwords * Config.gbits ∧ Config.ptBits = Config.bdayBits + Config.entBits ∧
    Config.dict = 2 ^ Config.gbits := by
  decide
theorem test_types_have_the_widths :
    Version = BitVec Config.verBits ∧ Text = BitVec Config.ctBits ∧ Salt = BitVec Config.saltBits ∧
    Checksum = BitVec Config.ckBits ∧ Key = BitVec Config.keyBits ∧ Record = BitVec Config.recBits :=
  ⟨rfl, rfl, rfl, rfl, rfl, rfl⟩

/-! ### The commands -/

/-- V1. -/
theorem test_crc_vectors :
    crc32c [0x00#8] = 0x527D5351#32 ∧ crc32c [0x80#8] = 0xD08B6829#32 ∧
    crc32c (List.replicate 29 0xFF#8) = 0x19486B24#32 ∧ checksum recordV3.body = 0xC68481C3#32 := by
  decide +kernel

/-- R160: `NOP` after a `CKMIS`: `STATUS` from 0x1804 to 0x1800. -/
theorem test_nop_status :
    (nop { State.reset with wcnt := 24#5, err := .ckmis }).status = 0x00001800#32 := by decide +kernel

/-- R142: after the three pushes of R141, `CLRW` gives `STATUS` 0. -/
theorem test_clrw_status :
    (clrw (push 2047#32 (push 0xFFFFFFFF#32 (push 5#32 State.reset)))).status = 0x00000000#32 := by decide +kernel

/-- R141: the example. -/
theorem test_push_status :
    (push 2047#32 (push 0xFFFFFFFF#32 (push 5#32 State.reset))).status = 0x00010380#32 := by decide +kernel
theorem test_push_indices :
    (push 2047#32 (push 0xFFFFFFFF#32 (push 5#32 State.reset))).idx.toList.take 4 = [5#11, 0#11, 2047#11, 0#11] := by
  decide +kernel

/-- V2 (c): the record bytes 0x01 to 0x21. -/
theorem test_pack_field_boundaries :
    (pack (State.reset.loadRecord 0x0102030405060708090A0B0C0D0E0F101112131415161718191A1B1C1D1E1F2021#264)).idx.toList =
      [8#11, 128#11, 1544#11, 80#11, 771#11, 1056#11, 289#11, 523#11, 96#11, 835#11, 1054#11, 257#11,
       137#11, 76#11, 642#11, 1302#11, 184#11, 1542#11, 564#11, 433#11, 1550#11, 1144#11, 996#11, 33#11] := by
  decide +kernel

/-- V2 (d): the indices 0 to 23. -/
theorem test_unpack_counting :
    let t := unpack { State.reset with idx := Vector.ofFn fun i => BitVec.ofNat 11 i.val, wcnt := 24#5 }
    t.ct = 0x000401003008014030070100240500B01803#144 ∧ t.salt = 0x40700F02004409013028#80 ∧ t.ck = 0x0540B017#32 ∧
      t.status = 0x00001800#32 := by
  decide +kernel

/-- V7 (c), (d): `BADWORD`, and the count tested first. -/
theorem test_unpack_failures :
    (unpack { State.reset with wcnt := 24#5, badv := true, badpos := 7#5 }).status = 0x00071882#32 ∧
    (unpack { State.reset with wcnt := 23#5, badv := true, badpos := 3#5 }).status = 0x00031781#32 := by
  decide +kernel

/-- V5 (a): the last checksum bit flipped; the plaintext is given up. -/
theorem test_verify_ckmis :
    let t := verify csbConfig { recordV3 with ck := 0xC68481C2#32, bday := 7#16, ent := 0x1111#128 }
    t.status = 0x00000004#32 ∧ t.bday = 0#16 ∧ t.ent = 0#128 := by
  decide +kernel

/-- V5 (c): version first; and the record of V3 verifies. -/
theorem test_verify_badver :
    (verify csbConfig { recordV3 with ver := 1#8 }).status = 0x00000003#32 ∧
    (verify csbConfig recordV3).status = 0x00000010#32 := by
  decide +kernel

/-- V5 (b): a checksum for an unsupported version. -/
theorem test_ckgen_other_version :
    (ckgen csbConfig { recordV3 with ver := 1#8 }).ck = 0x315F4AE6#32 := by decide +kernel

/-- V8 (T). -/
theorem test_encrypt_v8 :
    (encrypt cfgTest { State.reset with kmask := 0xFF#8
                                        key := 0x1111111111111111111111111111111111111111111111111111111100000001#256 }).ct
      = 0x111111110000000000000000000011111110#144 := by
  decide +kernel
theorem test_encrypt_refused : (encrypt cfgTest { keyed with kmask := 0x7F#8 }).status = 0x00000006#32 := by
  decide +kernel

/-- V12 (T): a wrong key ends with `OK` and another plaintext. -/
theorem test_decrypt_wrong_key :
    let t := decrypt cfgTest { recordV3 with vfy := true, wcnt := 24#5, kmask := 0xFF#8, key := k1 ^^^ 1#256 }
    t.status = 0x00001870#32 ∧ t.bday = 0#16 ∧ t.ent = 1#128 := by
  decide +kernel

/-- V16: the arm of `AuthFail`, in a configuration that rejects. -/
theorem test_decrypt_authfail :
    let t := decrypt cfgReject { recordV3 with vfy := true, wcnt := 24#5, kmask := 0xFF#8, key := k1, bday := 7#16 }
    t.status = 0x00001835#32 ∧ t.bday = 0#16 := by
  decide +kernel

/-- V15 (T). -/
theorem test_seal_v15 :
    let t := sealRecord cfgTest { State.reset with bday := 0x1234#16, ent := e2, salt := s2, key := k2, kmask := 0xFF#8 }
    t.status = 0x00001820#32 ∧ t.ct = 0xE2D4D0D14F5F6F7F8EBCEAD8467422100132#144 ∧ t.ck = 0xD7DA1926#32 ∧
      t.idx.toList.take 3 = [7#11, 181#11, 417#11] ∧ t.idx.toList.drop 21 = [1887#11, 835#11, 294#11] := by
  decide +kernel

/-- V4: `OPEN` of V3's mnemonic. -/
theorem test_open_v4 :
    let t := openRecord csbConfig
      { State.reset with
        idx := ⟨#[0#11, 0#11, 516#11, 49#11, 779#11, 72#11, 599#11, 1727#11, 1413#11, 1132#11, 1383#11, 843#11,
                  723#11, 670#11, 1044#11, 418#11, 1309#11, 297#11, 845#11, 634#11, 1108#11, 1818#11, 144#11, 451#11], rfl⟩
        wcnt := 24#5
        kmask := 0xFF#8 }
    t.status = 0x00001810#32 ∧ t.ct = recordV3.ct ∧ t.salt = s1 ∧ t.ck = 0xC68481C3#32 := by
  decide +kernel

/-- V14: `ZEROIZE` wipes key and record. -/
theorem test_zeroize :
    (zeroize { recordV3 with kmask := 0xFF#8, key := k1, vfy := true }).status = 0x00000000#32 ∧
    (zeroize { recordV3 with kmask := 0xFF#8, key := k1, vfy := true }).key = 0#256 := by
  decide +kernel

/-! ### The window, the fetch and the step -/

/-- V10. -/
theorem test_bus_errors :
    (after keyed (.read 0x60#8 4)).reply = some (.error .writeOnly) ∧
    (after keyed (.write 0xDC#8 4 0#32)).reply = some (.error .readOnly) ∧
    (after keyed (.write 0x0C#8 4 0#32)).reply = some (.error .unmapped) ∧
    (after keyed (.read 0x0D#8 4)).reply = some (.error .misaligned) ∧
    (after keyed (.write 0x02#8 4 0x0000000A#32)).key = k1 := by
  decide +kernel

/-- V11: what register writes do to the flags, from `STATUS` 0x1870. -/
theorem test_flag_effects :
    let s := { recordV3 with wcnt := 24#5, vfy := true, ptv := true, kmask := 0xFF#8, key := k1 }
    s.status = 0x00001870#32 ∧ (after s (.write 0x40#8 4 0xB4B5A6A7#32)).status = 0x00001860#32 ∧
    (after s (.write 0x2C#8 4 0#32)).status = 0x00001830#32 ∧
    (after s (.write 0x50#8 4 0xA0A1#32)).status = 0x00001840#32 ∧
    (after s (.write 0x60#8 4 0#32)).status = 0x00001870#32 ∧ (after s (.write 0x08#8 4 0#32)).status = 0x00001970#32 := by
  decide +kernel

/-- R43: the short words of `CT` and `SALT`, and a middle one. -/
theorem test_register_words :
    (after recordV3 (.read 0x30#8 4)).reply = some (.data 0x00000001#32) ∧
    (after recordV3 (.read 0x38#8 4)).reply = some (.data 0x1212BEBF#32) ∧
    (after recordV3 (.read 0x50#8 4)).reply = some (.data 0x0000A0A1#32) ∧
    (after recordV3 (.write 0x30#8 4 0xFFFF1234#32)).ct = 0x1234020316161212BEBFB0B1B2B3B4B5A6A7#144 := by
  decide +kernel

/-- The placed command runs in the very next step: `PACK` and `VERIFY` on the reset state (V13). -/
theorem test_fetch_word :
    (match step (State.reset.withFetchWord 32 0x3) with
      | .next t => t.status == 0x00001800#32 && t.reply == some .written
      | .fault _ => false
      | .refused _ => false) = true ∧
    (match step (State.reset.withFetchWord 32 0x4) with
      | .next t => t.status == 0x00000004#32
      | .fault _ => false
      | .refused _ => false) = true := by
  decide +kernel

/-- R90: the first and the last access of `LDKEY`, and `PUSHALL`. -/
theorem test_assemble :
    (assemble (.ldKey k2)).head? = some (.write 0x60#8 4 0xF0E0D0C0#32) ∧
    (assemble (.ldKey k2)).getLast? = some (.write 0x7C#8 4 0x33221100#32) ∧
    assemble (.pushAll [7#32]) = [.write 0x00#8 4 0x1#32, .write 0x08#8 4 7#32] := by
  decide +kernel

/-! ### Witnesses: each statement's hypotheses are met by a concrete state and concrete operands -/

theorem test_witness_StepRunsDecodedCommand :
    Instr.wellFormed .zeroize = true ∧ decode 0x0000000A#32 = .ok .zeroize := ⟨rfl, rfl⟩
theorem test_witness_IllegalWordOnlySetsErr :
    (0x00000100#32).extractLsb' 8 24 ≠ 0#24 ∧ 0x0B ≤ ((0x0000000B#32).extractLsb' 0 8).toNat := by decide
theorem test_witness_WaitsWithoutAnAct : State.reset.script = [] := rfl
/-- The last word of `ENT`, `CT`, `SALT`, `KEY` and the last index: the reads and writes of a numbered word. -/
theorem test_witness_word_numbers : 3 < 4 ∧ 4 < 5 ∧ 2 < 3 ∧ 7 < 8 ∧ 23 < 24 := by decide
theorem test_witness_BusErrorsChangeNothing :
    (2 ≠ 4 ∨ (0x10#8).extractLsb' 0 2 ≠ 0#2) ∧ (4 ≠ 4 ∨ (0x11#8).extractLsb' 0 2 ≠ 0#2) ∧
    0x0C#8 ∈ reservedOffsets ∧ 0xFC#8 ∈ reservedOffsets ∧ 0x80#8 ∈ idxOffsets ∧ 0xDC#8 ∈ idxOffsets ∧
    0x60#8 ∈ keyOffsets ∧ 0x7C#8 ∈ keyOffsets := by decide
theorem test_witness_PushAppendsOneLookup :
    24 ≤ ({ State.reset with wcnt := 24#5 } : State).wcnt.toNat ∧
    ({ State.reset with wcnt := 23#5 } : State).wcnt.toNat < 24 ∧ (2047#32).toNat < 2048 ∧ 2048 ≤ (2048#32).toNat := by
  decide
theorem test_witness_UnpackResult :
    State.reset.wcnt ≠ 24#5 ∧ ({ State.reset with wcnt := 25#5 } : State).wcnt ≠ 24#5 ∧
    (({ State.reset with wcnt := 24#5, badv := true } : State).wcnt = 24#5 ∧
      ({ State.reset with wcnt := 24#5, badv := true } : State).badv = true) ∧
    (({ State.reset with wcnt := 24#5 } : State).wcnt = 24#5 ∧ ({ State.reset with wcnt := 24#5 } : State).badv = false) := by
  decide
theorem test_witness_VerifyResult :
    ({ State.reset with ver := 1#8 } : State).ver ≠ 0x00#8 ∧
    (State.reset.ver = 0x00#8 ∧ csbConfig.ck (State.reset.ver ++ State.reset.ct ++ State.reset.salt) ≠ State.reset.ck) ∧
    (recordV3.ver = 0x00#8 ∧ csbConfig.ck (recordV3.ver ++ recordV3.ct ++ recordV3.salt) = recordV3.ck) := by
  decide +kernel
theorem test_witness_DecryptResult :
    (keyed.vfy = false ∨ keyed.kmask ≠ 0xFF#8) ∧
    (({ recordV3 with vfy := true } : State).vfy = false ∨ ({ recordV3 with vfy := true } : State).kmask ≠ 0xFF#8) ∧
    (({ keyed with vfy := true } : State).vfy = true ∧ ({ keyed with vfy := true } : State).kmask = 0xFF#8) := by
  decide
/-- Also for `SealResult`. -/
theorem test_witness_EncryptResult : ({ keyed with kmask := 0x7F#8 } : State).kmask ≠ 0xFF#8 ∧ keyed.kmask = 0xFF#8 := by
  decide
theorem test_witness_OpenIsUnpackThenVerify :
    (unpack State.reset).err ≠ .ok ∧ (unpack { State.reset with wcnt := 24#5 }).err = .ok ∧
    (openRecord csbConfig State.reset).err = .wcount ∧
    (openRecord csbConfig { State.reset with wcnt := 24#5 }).err = .ckmis ∧
    (openRecord csbConfig { State.reset with idx := splitRecord recordV3.record, wcnt := 24#5 }).err = .ok := by
  decide +kernel
theorem test_witness_OpenReportsTheFirstCause :
    ∀ (i : Nat) (h : i < 24), (0#264).extractLsb' (253 - 11 * i) 11 = State.reset.idx[i] := by decide
/-- For `SealIsItsThreeCommands`, `SealThenVerifyAccepts` and `SealOpenDecryptRoundTrip`: what `SEAL` leaves is itself
a state whose indices, count and flag meet the inner hypotheses. -/
theorem test_witness_SealOpenDecryptRoundTrip :
    keyed.kmask = 0xFF#8 ∧ keyed.ver = 0x00#8 ∧ ∃ a, exec .sealRecord keyed = .next a ∧ a.wcnt = 24#5 ∧ a.badv = false :=
  ⟨rfl, rfl, _, rfl, by decide +kernel, by decide +kernel⟩
theorem test_witness_SeqExactlyWithoutTheFlags : (encrypt csbConfig State.reset).err = .seq := by decide
theorem test_witness_NoPartialDecode :
    Instr.unpack ∈ decodePath ∧ exec .unpack State.reset = .next (unpack State.reset) ∧
    (unpack State.reset).err ∈ decodeFailures := ⟨by decide, rfl, by decide⟩
theorem test_witness_PushUnpackPackRoundTrip : State.reset.wcnt = 0#5 ∧ State.reset.badv = false := ⟨rfl, rfl⟩
/-- For `SingleBitFlipRejected`: the record of V3 verifies; both sides of bit 256. -/
theorem test_witness_SingleBitFlipRejected :
    recordV3.ver = 0x00#8 ∧ csbConfig.ck (recordV3.ver ++ recordV3.ct ++ recordV3.salt) = recordV3.ck ∧
    0 < 264 ∧ 255 < 256 ∧ ¬ 256 < 256 ∧ 263 < 264 ∧
    (verify csbConfig { recordV3 with ct := recordV3.ct ^^^ (1#144 <<< 143) }).err = .ckmis ∧
    (verify csbConfig { recordV3 with ver := 1#8 }).err = .badver := by
  decide +kernel
theorem test_witness_AdjacentWordChangeRejected :
    recordV3.ver = 0x00#8 ∧ csbConfig.ck (recordV3.ver ++ recordV3.ct ++ recordV3.salt) = recordV3.ck ∧
    22 < 23 ∧ 1#22 ≠ 0#22 ∧ (0x200000#22 : BitVec 22) ≠ 0#22 := by
  decide +kernel
theorem test_witness_LawfulCipherNeverRejects : cfgTest.RoundTrips := by
  intro k n p
  simp [cfgTest]
theorem test_witness_AuthFailDeliversNothing :
    ({ keyed with vfy := true } : State).vfy = true ∧ ({ keyed with vfy := true } : State).kmask = 0xFF#8 ∧
    cfgReject.dec keyed.key keyed.salt keyed.ct = none := ⟨rfl, rfl, rfl⟩
theorem test_witness_WrongKeyIsNotDetected :
    ({ recordV3 with vfy := true, kmask := 0xFF#8 } : State).vfy = true ∧
    ({ recordV3 with vfy := true, kmask := 0xFF#8 } : State).kmask = 0xFF#8 := ⟨rfl, rfl⟩
/-- Each row of R44 has an act that changes its state. -/
theorem test_witness_OnlyTheListedWritersChangeState :
    let s := { recordV3 with ptv := true, ent := 1#128, bday := 1#16, kmask := 1#8 }
    (after s (.write 0x08#8 4 5#32)).wcnt ≠ s.wcnt ∧ (after s (.write 0x10#8 4 1#32)).ver ≠ s.ver ∧
    (after s (.write 0x40#8 4 1#32)).ct ≠ s.ct ∧ (after s (.write 0x58#8 4 1#32)).salt ≠ s.salt ∧
    (after s (.write 0x18#8 4 1#32)).ck ≠ s.ck ∧ (after s (cmdEvent 0x2#32)).bday ≠ s.bday ∧
    (after s (.write 0x2C#8 4 2#32)).ent ≠ s.ent ∧ (after s (.write 0x50#8 4 0xA0A1#32)).kmask ≠ s.kmask ∧
    (after s (cmdEvent 0x4#32)).vfy ≠ s.vfy ∧ (after s (.write 0x14#8 4 1#32)).ptv ≠ s.ptv ∧
    (after s (cmdEvent 0xB#32)).err ≠ s.err := by
  decide +kernel
theorem test_witness_VfySetOnlyByPassingVerify :
    recordV3.vfy = false ∧ (after recordV3 (cmdEvent 0x4#32)).vfy = true := by decide +kernel
theorem test_witness_PtvSetOnlyByDecrypt :
    ({ keyed with vfy := true } : State).ptv = false ∧ (after { keyed with vfy := true } (cmdEvent 0x6#32)).ptv = true := by
  decide +kernel
/-- A legal state that is not the reset state: one invalid lookup pushed, one key word written, a valid record. -/
theorem test_witness_InvariantKeptByEveryStep :
    LegalState { recordV3 with wcnt := 1#5, badv := true, vfy := true, kmask := 0x80#8, key := 5#256 } :=
  ⟨by decide, by decide, by decide, by decide, by decide, by decide +kernel, by decide +kernel⟩
theorem test_witness_SaltWriteForcesSeq : 0x50#8 ∈ saltOffsets ∧ 0x58#8 ∈ saltOffsets := by decide
theorem test_witness_RecordWriteForcesSeqOnDecrypt : 0x10#8 ∈ recordOffsets ∧ 0x40#8 ∈ recordOffsets := by decide
theorem test_witness_PushOnFullBufferForcesWcount :
    24 ≤ ({ State.reset with wcnt := 24#5 } : State).wcnt.toNat ∧ 24 ≤ ({ State.reset with wcnt := 25#5 } : State).wcnt.toNat := by
  decide

end Sys2Proof.Tests
end

section
/-! PROOFS. `00_scope.md`: a step is one act of the host, complete when the step is (R13 to R15). -/

open Sys2Proof Sys2Proof.Machine

namespace Sys2Proof.Proofs

/-- R40, R54, R168: the access checks pass a 32-bit write to `CMD` whatever the word, so the step is `runCommand`
of the word, answered `OKAY` around its effect. -/
theorem step_cmd_write (s : State) (rest : List HostEvent) (w : Word) :
    step { s with script := .write 0x00#8 4 w :: rest } =
      mapNext (fun t => t.answer .written) (runCommand w { s with script := rest }) := by
  calc step { s with script := .write 0x00#8 4 w :: rest }
      = serve (.write 0x00#8 4 w) { s with script := rest } := step_of_cons rfl
    _ = mapNext (fun t => t.answer .written) (writeReg .cmd w { s with script := rest }) :=
        busWrite_offset .cmd rfl w _

/-- Settles O4: the step is `runCommand` of the word, which runs what the word decodes to. That the command is well
formed is not needed: `exec` runs every command. -/
theorem stepRunsDecodedCommand : Obligations.StepRunsDecodedCommand := by
  intro s rest w i _ hdecode
  rw [step_cmd_write, runCommand_of_ok hdecode]
  rfl

/-- Settles O7: with no act left to take off the script, the step is the wait (R15, log entry 2). -/
theorem waitsWithoutAnAct : Obligations.WaitsWithoutAnAct :=
  fun _ hempty => step_of_empty hempty

end Sys2Proof.Proofs
end

section
/-! PROOFS. `10_state.md`: what each act of the host can change (R44), and the invariant of the CSB (R23 to R37).
First what a step can do, then the table of R44 as data, then the statements. -/

open Sys2Proof Sys2Proof.Machine

namespace Sys2Proof.Proofs

/-! ### What a step leaves behind -/

/-- The state in which a command leaves the CSB. -/
def afterCommand : Instr → State → State
  | .nop => nop
  | .clrw => clrw
  | .unpack => unpack
  | .pack => pack
  | .verify => verify csbConfig
  | .ckgen => ckgen csbConfig
  | .decrypt => decrypt csbConfig
  | .encrypt => encrypt csbConfig
  | .openRecord => openRecord csbConfig
  | .sealRecord => sealRecord csbConfig
  | .zeroize => zeroize

theorem exec_eq_afterCommand (i : Instr) (s : State) : exec i s = .next (afterCommand i s) := by
  cases i <;> rfl

/-- What a write of a word to `CMD` does (R168): an illegal word only sets `ERR`, a legal one runs its command. -/
theorem runCommand_cases (w : Word) (s : State) :
    runCommand w s = .next (s.setErr .illegal) ∨
    ∃ i, decode w = .ok i ∧ runCommand w s = .next (afterCommand i s) := by
  cases h : decode w with
  | error e => exact .inl (runCommand_of_error h s)
  | ok i => exact .inr ⟨i, rfl, by rw [runCommand_of_ok h, exec_eq_afterCommand]⟩

/-- A register stands only at its own offset (R51). -/
theorem offset_of_regAt {a : Offset} {r : Reg} (h : regAt a = some r) : a = r.offset := by
  have key : ∀ a : Offset, (regAt a).all (fun r => a = r.offset) = true := by decide
  simpa [h] using key a

/-- The three things a step that answers next can have done: touch only the host's side of the bus (a wait, a read
or a refused write), reset, or write a register that takes a write. -/
theorem step_next_cases {s t : State} (h : step s = .next t) :
    (∃ rest y, t = { s with script := rest, reply := y }) ∨
    (∃ rest, s.script = .reset :: rest ∧ t = { State.reset with script := rest }) ∨
    (∃ r v rest u, s.script = .write r.offset 4 v :: rest ∧
      writeReg r v { s with script := rest } = .next u ∧ t = u.answer .written) := by
  rcases step_cases s with ⟨_, e⟩ | ⟨a, size, rest, _, e⟩ | ⟨a, size, v, rest, hs, e⟩ | ⟨rest, hs, e⟩
  · cases e.symm.trans h
    exact .inl ⟨_, _, rfl⟩
  · cases e.symm.trans h
    rcases busRead_cases a size { s with script := rest } with ⟨_, _, e⟩ | ⟨_, _, e⟩ <;> rw [e] <;>
      exact .inl ⟨_, _, rfl⟩
  · rcases busWrite_cases a size v { s with script := rest } with ⟨_, _, e'⟩ | ⟨r, hc, e'⟩
    · cases (e.trans e').symm.trans h
      exact .inl ⟨_, _, rfl⟩
    · obtain ⟨u, hu, ht⟩ := mapNext_eq_next ((e.trans e').symm.trans h)
      obtain ⟨rfl, hr, _⟩ := checkAccess_ok hc
      exact .inr (.inr ⟨r, v, rest, u, offset_of_regAt hr ▸ hs, hu, ht⟩)
  · cases e.symm.trans h
    exact .inr (.inl ⟨rest, hs, rfl⟩)

/-! ### The table of R44 -/

/-- The rows of R44, with a row for each field that has writers of its own. -/
inductive Piece where
  | buffer | ver | ct | salt | ck | bday | ent | key | vfy | ptv | err

/-- The piece holds in `t` what it holds in `s`. -/
def Piece.Same (s t : State) : Piece → Prop
  | .buffer => t.idx = s.idx ∧ t.wcnt = s.wcnt ∧ t.badv = s.badv ∧ t.badpos = s.badpos
  | .ver => t.ver = s.ver
  | .ct => t.ct = s.ct
  | .salt => t.salt = s.salt
  | .ck => t.ck = s.ck
  | .bday => t.bday = s.bday
  | .ent => t.ent = s.ent
  | .key => t.key = s.key ∧ t.kmask = s.kmask
  | .vfy => t.vfy = s.vfy
  | .ptv => t.ptv = s.ptv
  | .err => t.err = s.err

/-- The offsets whose writes R44 names as writers of the piece. -/
def Piece.offsets : Piece → List Offset
  | .buffer => [0x08#8]
  | .ver => [0x10#8]
  | .ct => ctOffsets
  | .salt => saltOffsets
  | .ck => [0x18#8]
  | .bday => [0x14#8]
  | .ent => entOffsets
  | .key => keyOffsets ++ saltOffsets
  | .vfy => recordOffsets
  | .ptv => [0x14#8] ++ entOffsets
  | .err => [0x00#8]

/-- The commands that R44 names as writers of the piece. -/
def Piece.commands : Piece → List Instr
  | .buffer => [.clrw, .pack, .sealRecord, .zeroize]
  | .ver => [.unpack, .openRecord, .zeroize]
  | .ct => [.unpack, .openRecord, .encrypt, .sealRecord, .zeroize]
  | .salt => [.unpack, .openRecord, .zeroize]
  | .ck => [.unpack, .openRecord, .ckgen, .sealRecord, .zeroize]
  | .bday => [.decrypt, .unpack, .verify, .openRecord, .zeroize]
  | .ent => [.decrypt, .unpack, .verify, .openRecord, .zeroize]
  | .key => [.unpack, .openRecord, .zeroize]
  | .vfy => [.verify, .openRecord, .unpack, .encrypt, .ckgen, .sealRecord, .zeroize]
  | .ptv => [.decrypt, .unpack, .verify, .openRecord, .zeroize]
  | .err => [.nop, .clrw, .unpack, .pack, .verify, .ckgen, .decrypt, .encrypt, .openRecord, .sealRecord, .zeroize]

theorem Piece.Same.trans {p : Piece} {s t u : State} (h : p.Same s t) (h' : p.Same t u) : p.Same s u := by
  cases p <;> simp_all [Piece.Same]

/-- The host's side of the bus is no piece of state: changing it on both sides of a comparison changes nothing. -/
theorem Piece.same_host_side {p : Piece} {s u : State} {rest : List HostEvent} {y : Reply}
    (h : p.Same { s with script := rest } u) : p.Same s (u.answer y) := by
  cases p <;> exact h

theorem setErr_same {p : Piece} (s : State) (c : ResultCode) (h : p ≠ .err) : p.Same s (s.setErr c) := by
  cases p <;> simp_all [Piece.Same]

theorem ne_err_of_not_mem_commands {p : Piece} {i : Instr} (h : i ∉ p.commands) : p ≠ .err := by
  rintro rfl
  cases i <;> simp [Piece.commands] at h

/-! ### A command changes only the pieces that list it

Each proof takes the command's cases, and in each case goes down the rows of the table: a row that lists the command is
shut out by the hypothesis, and the update leaves any other row. -/

theorem unpack_same {p : Piece} (s : State) (h : Instr.unpack ∉ p.commands) : p.Same s (unpack s) := by
  rcases unpack_cases s with ⟨_, e⟩ | ⟨_, _, e⟩ | ⟨_, _, e⟩ <;> rw [e] <;>
    cases p <;> simp_all [Piece.Same, Piece.commands]

theorem verify_same {p : Piece} (cfg : Config) (s : State) (h : Instr.verify ∉ p.commands) :
    p.Same s (verify cfg s) := by
  rcases verify_cases cfg s with ⟨_, e⟩ | ⟨_, _, e⟩ | ⟨_, _, e⟩ <;> rw [e] <;>
    cases p <;> simp_all [Piece.Same, Piece.commands]

theorem encrypt_same {p : Piece} (cfg : Config) (s : State) (h : Instr.encrypt ∉ p.commands) :
    p.Same s (encrypt cfg s) := by
  rcases encrypt_cases cfg s with ⟨_, e⟩ | ⟨_, e⟩ <;> rw [e] <;>
    cases p <;> simp_all [Piece.Same, Piece.commands]

theorem decrypt_same {p : Piece} (cfg : Config) (s : State) (h : Instr.decrypt ∉ p.commands) :
    p.Same s (decrypt cfg s) := by
  rcases decrypt_cases cfg s with ⟨_, e⟩ | ⟨_, _, _, e⟩ | ⟨_, _, _, _, e⟩ <;> rw [e] <;>
    cases p <;> simp_all [Piece.Same, Piece.commands]

theorem ckgen_same {p : Piece} (cfg : Config) (s : State) (h : Instr.ckgen ∉ p.commands) :
    p.Same s (ckgen cfg s) := by
  cases p <;> simp_all [ckgen, Piece.Same, Piece.commands]

theorem pack_same {p : Piece} (s : State) (h : Instr.pack ∉ p.commands) : p.Same s (pack s) := by
  cases p <;> simp_all [pack, Piece.Same, Piece.commands]

theorem clrw_same {p : Piece} (s : State) (h : Instr.clrw ∉ p.commands) : p.Same s (clrw s) := by
  cases p <;> simp_all [clrw, Piece.Same, Piece.commands]

/-- `OPEN` is listed wherever one of its two parts is (R161). -/
theorem openRecord_same {p : Piece} (cfg : Config) (s : State) (h : Instr.openRecord ∉ p.commands) :
    p.Same s (openRecord cfg s) := by
  have hu : Instr.unpack ∉ p.commands := by cases p <;> simp_all [Piece.commands]
  have hv : Instr.verify ∉ p.commands := by cases p <;> simp_all [Piece.commands]
  unfold openRecord
  split
  · exact (unpack_same s hu).trans (verify_same cfg _ hv)
  · exact unpack_same s hu

/-- `SEAL` is listed wherever one of its three parts is (R162). -/
theorem sealRecord_same {p : Piece} (cfg : Config) (s : State) (h : Instr.sealRecord ∉ p.commands) :
    p.Same s (sealRecord cfg s) := by
  by_cases hk : s.kmask = 0xFF#8
  · have he : Instr.encrypt ∉ p.commands := by cases p <;> simp_all [Piece.commands]
    have hg : Instr.ckgen ∉ p.commands := by cases p <;> simp_all [Piece.commands]
    have hp : Instr.pack ∉ p.commands := by cases p <;> simp_all [Piece.commands]
    rw [sealRecord_of_key cfg hk]
    exact ((encrypt_same cfg s he).trans (ckgen_same cfg _ hg)).trans (pack_same _ hp)
  · rw [sealRecord_of_no_key cfg hk]
    exact setErr_same s _ (ne_err_of_not_mem_commands h)

theorem afterCommand_same {i : Instr} {p : Piece} (s : State) (h : i ∉ p.commands) :
    p.Same s (afterCommand i s) := by
  cases i with
  | nop => exact setErr_same s .ok (ne_err_of_not_mem_commands h)
  | clrw => exact clrw_same s h
  | unpack => exact unpack_same s h
  | pack => exact pack_same s h
  | verify => exact verify_same _ s h
  | ckgen => exact ckgen_same _ s h
  | decrypt => exact decrypt_same _ s h
  | encrypt => exact encrypt_same _ s h
  | openRecord => exact openRecord_same _ s h
  | sealRecord => exact sealRecord_same _ s h
  | zeroize => cases p <;> simp [Piece.commands] at h

/-! ### A write to a register changes only the pieces that list its offset -/

@[simp] theorem offset_ct_mem (j : Fin 5) : (Reg.ct j).offset ∈ ctOffsets := by revert j; decide
@[simp] theorem offset_ent_mem (j : Fin 4) : (Reg.ent j).offset ∈ entOffsets := by revert j; decide
@[simp] theorem offset_salt_mem (j : Fin 3) : (Reg.salt j).offset ∈ saltOffsets := by revert j; decide
@[simp] theorem offset_key_mem (j : Fin 8) : (Reg.key j).offset ∈ keyOffsets := by revert j; decide

theorem push_same {p : Piece} (v : Word) (s : State) (h : p ≠ .buffer) : p.Same s (push v s) := by
  rcases Nat.lt_or_ge s.wcnt.toNat 24 with hroom | hfull
  · rw [push_of_room v hroom]
    cases p <;> simp_all [Piece.Same]
  · rw [push_of_full v hfull]
    cases p <;> simp_all [Piece.Same]

theorem writeReg_same {p : Piece} {r : Reg} {v : Word} {s u : State} (hr : r ≠ .cmd)
    (hu : writeReg r v s = .next u) (h : r.offset ∉ p.offsets) : p.Same s u := by
  cases r with
  | cmd => exact absurd rfl hr
  | status => cases hu; cases p <;> simp [Piece.Same]
  | idx i => cases hu; cases p <;> simp [Piece.Same]
  | wpush => cases hu; exact push_same v s (by rintro rfl; exact h (by decide))
  | ver => cases hu; cases p <;> simp_all [Piece.Same, Piece.offsets, recordOffsets, Reg.offset]
  | bday => cases hu; cases p <;> simp_all [Piece.Same, Piece.offsets, Reg.offset]
  | cksum => cases hu; cases p <;> simp_all [Piece.Same, Piece.offsets, recordOffsets, Reg.offset]
  | ent j => cases hu; cases p <;> simp_all [Piece.Same, Piece.offsets]
  | ct j => cases hu; cases p <;> simp_all [Piece.Same, Piece.offsets, recordOffsets]
  | salt j => cases hu; cases p <;> simp_all [Piece.Same, Piece.offsets, recordOffsets]
  | key j => cases hu; cases p <;> simp_all [Piece.Same, Piece.offsets]

/-! ### A step changes only what R44 lists -/

theorem nextWrites_cmd_of_nextCommands {s : State} {is : List Instr} (h : NextCommands s is) :
    NextWrites s [0x00#8] := by
  obtain ⟨w, i, rest, hs, _, _⟩ := h
  exact ⟨_, w, rest, hs, by simp⟩

theorem step_same {p : Piece} {s t : State} (h : step s = .next t) (hreset : ¬ NextResets s) :
    p.Same s t ∨ NextWrites s p.offsets ∨ NextCommands s p.commands := by
  rcases step_next_cases h with ⟨rest, y, rfl⟩ | ⟨rest, hs, _⟩ | ⟨r, v, rest, u, hs, hu, rfl⟩
  · left
    cases p <;> simp [Piece.Same]
  · exact absurd ⟨rest, hs⟩ hreset
  by_cases hw : r.offset ∈ p.offsets
  · exact .inr (.inl ⟨_, v, rest, hs, hw⟩)
  by_cases hr : r = .cmd
  · subst hr
    rcases runCommand_cases v { s with script := rest } with e | ⟨i, hi, e⟩
    · cases e.symm.trans hu
      exact .inl (Piece.same_host_side (setErr_same _ _ (by rintro rfl; exact hw (by decide))))
    · cases e.symm.trans hu
      by_cases hc : i ∈ p.commands
      · exact .inr (.inr ⟨v, i, rest, hs, hi, hc⟩)
      · exact .inl (Piece.same_host_side (afterCommand_same _ hc))
  · exact .inl (Piece.same_host_side (writeReg_same hr hu hw))

end Sys2Proof.Proofs
end

section
/-! PROOFS. `10_state.md`: the invariant, the writers of the flags, and the statements about the whole machine. -/

open Sys2Proof Sys2Proof.Machine

namespace Sys2Proof.Proofs

/-! ### The three parts of the invariant, each over the pieces it speaks of -/

/-- What `LegalState` says of the index buffer (R23 to R25). -/
structure BufferLegal (s : State) : Prop where
  count_le : s.wcnt.toNat ≤ 25
  badpos_zero : s.badv = false → s.badpos = 0#5
  badpos_lt : s.badv = true → s.badpos.toNat < s.wcnt.toNat ∧ s.badpos.toNat < 24
  bad_index_zero : s.badv = true → ∀ (i : Nat) (h : i < 24), s.badpos.toNat = i → s.idx[i] = 0#11
  unpushed_zero : ∀ (i : Nat) (h : i < 24), s.wcnt.toNat ≤ i → s.idx[i] = 0#11

/-- What `LegalState` says of the record (R36). -/
def RecordLegal (s : State) : Prop := s.vfy = true → s.ver ∈ csbConfig.vset ∧ csbConfig.ck s.body = s.ck

/-- What `LegalState` says of the key (R35). -/
def KeyLegal (s : State) : Prop := ∀ j, j < 8 → s.kmask.getLsbD j = false → wordOf 8 s.key j = 0#32

theorem legalState_iff (s : State) : LegalState s ↔ BufferLegal s ∧ RecordLegal s ∧ KeyLegal s :=
  ⟨fun ⟨hc, hz, hl, hb, hu, hv, hk⟩ => ⟨⟨hc, hz, hl, hb, hu⟩, hv, hk⟩,
    fun ⟨⟨hc, hz, hl, hb, hu⟩, hv, hk⟩ => ⟨hc, hz, hl, hb, hu, hv, hk⟩⟩

theorem BufferLegal.of_same {s t : State} (h : BufferLegal s) (hst : Piece.buffer.Same s t) : BufferLegal t := by
  obtain ⟨hidx, hwcnt, hbadv, hbadpos⟩ := hst
  obtain ⟨hc, hz, hl, hb, hu⟩ := h
  constructor <;> simpa only [hidx, hwcnt, hbadv, hbadpos]

theorem KeyLegal.of_same {s t : State} (h : KeyLegal s) (hst : Piece.key.Same s t) : KeyLegal t := by
  obtain ⟨hkey, hkmask⟩ := hst
  simpa only [KeyLegal, hkey, hkmask]

/-- The pieces that R36 speaks of: the flag and the four record fields. -/
def recordPieces : List Piece := [.vfy, .ver, .ct, .salt, .ck]

theorem RecordLegal.of_same {s t : State} (h : RecordLegal s) (hst : ∀ p ∈ recordPieces, p.Same s t) :
    RecordLegal t := by
  simp only [recordPieces, List.forall_mem_cons, Piece.Same] at hst
  obtain ⟨hvfy, hver, hct, hsalt, hck, _⟩ := hst
  simpa only [RecordLegal, State.body, hvfy, hver, hct, hsalt, hck]

theorem recordLegal_of_vfy_false {s : State} (h : s.vfy = false) : RecordLegal s := by
  simp [RecordLegal, h]

theorem keyLegal_of_zero {s : State} (h : s.key = 0#256) : KeyLegal s := by
  simp [KeyLegal, h, wordOf]

/-! ### The reset state -/

theorem bufferLegal_reset : BufferLegal State.reset where
  count_le := by decide
  badpos_zero _ := rfl
  badpos_lt h := by simp at h
  bad_index_zero h := by simp at h
  unpushed_zero i h _ := by simp

/-- Settles O53: the buffer is empty, `VFY` is 0 and the key is 0. -/
theorem invariantAtReset : Obligations.InvariantAtReset :=
  (legalState_iff _).2 ⟨bufferLegal_reset, recordLegal_of_vfy_false rfl, keyLegal_of_zero rfl⟩

/-! ### The index buffer -/

/-- A push keeps the buffer legal: an invalid value stores index 0 at the position that `BADPOS` then names, and
neither an earlier `BADPOS` nor an unpushed position is the one written. -/
theorem push_keeps_bufferLegal (v : Word) {s : State} (h : BufferLegal s) : BufferLegal (push v s) := by
  obtain ⟨hc, hz, hl, hb, hu⟩ := h
  rcases Nat.lt_or_ge s.wcnt.toNat 24 with hroom | hfull
  · have hcount : (s.wcnt + 1#5).toNat = s.wcnt.toNat + 1 := BitVec.toNat_add_of_lt (by simp; omega)
    have hindex (i : Nat) (hi : i < 24) : (s.idx.setIfInBounds s.wcnt.toNat (pushedIndex v))[i] =
        if s.wcnt.toNat = i then pushedIndex v else s.idx[i] := Vector.getElem_setIfInBounds hi
    have hold (hbadv : (s.badv || decide (2048 ≤ v.toNat)) = true)
        (hlater : ¬ (s.badv = false ∧ 2048 ≤ v.toNat)) : s.badv = true :=
      Bool.eq_true_of_not_eq_false fun hf => hlater ⟨hf, by simpa [hf] using hbadv⟩
    rw [push_of_room v hroom]
    constructor <;> simp only [hcount, hindex]
    case count_le => omega
    case badpos_zero =>
      intro hbadv
      simp_all
    case badpos_lt =>
      intro hbadv
      split
      next => omega
      next hlater =>
        have := hl (hold hbadv hlater)
        omega
    case bad_index_zero =>
      intro hbadv i hi hpos
      split at hpos
      next hfirst => rw [if_pos hpos, pushedIndex_of_ge hfirst.2]
      next hlater =>
        have := hl (hold hbadv hlater)
        rw [if_neg (by omega), hb (hold hbadv hlater) i hi hpos]
    case unpushed_zero =>
      intro i hi hle
      rw [if_neg (by omega), hu i hi (by omega)]
  · rw [push_of_full v hfull]
    constructor <;> simp only [BitVec.reduceToNat]
    case count_le => omega
    case badpos_zero => exact hz
    case badpos_lt => exact fun hbadv => ⟨by have := hl hbadv; omega, (hl hbadv).2⟩
    case bad_index_zero => exact hb
    case unpushed_zero => intros; omega

theorem pack_bufferLegal (s : State) : BufferLegal (pack s) where
  count_le := by simp [pack]
  badpos_zero _ := rfl
  badpos_lt h := by simp [pack] at h
  bad_index_zero h := by simp [pack] at h
  unpushed_zero i h hle := by simp [pack] at hle; omega

theorem afterCommand_keeps_bufferLegal (i : Instr) {s : State} (h : BufferLegal s) :
    BufferLegal (afterCommand i s) := by
  by_cases hi : i ∈ Piece.buffer.commands
  · cases i with
    | clrw => exact bufferLegal_reset.of_same ⟨rfl, rfl, rfl, rfl⟩
    | pack => exact pack_bufferLegal s
    | sealRecord =>
      by_cases hk : s.kmask = 0xFF#8
      · simpa only [afterCommand, sealRecord_of_key _ hk] using pack_bufferLegal _
      · simp only [afterCommand, sealRecord_of_no_key _ hk]
        exact h.of_same (setErr_same s _ (by simp))
    | zeroize => exact bufferLegal_reset.of_same ⟨rfl, rfl, rfl, rfl⟩
    | _ => simp [Piece.commands] at hi
  · exact h.of_same (afterCommand_same s hi)

/-! ### The record and its flag -/

theorem unpack_vfy (s : State) : (unpack s).vfy = false := by
  rcases unpack_cases s with ⟨_, e⟩ | ⟨_, _, e⟩ | ⟨_, _, e⟩ <;> simp [e]

theorem verify_vfy_iff (cfg : Config) (s : State) : (verify cfg s).vfy = true ↔ (verify cfg s).err = .ok := by
  rcases verify_cases cfg s with ⟨_, e⟩ | ⟨_, _, e⟩ | ⟨_, _, e⟩ <;> simp [e]

theorem openRecord_vfy_iff (cfg : Config) (s : State) :
    (openRecord cfg s).vfy = true ↔ (openRecord cfg s).err = .ok := by
  by_cases h : (unpack s).err = .ok
  · rw [openRecord_of_ok cfg h]
    exact verify_vfy_iff cfg _
  · rw [openRecord_of_error cfg h]
    simp [unpack_vfy, h]

/-- The one command that leaves a set `VFY` of its own is a passing `VERIFY`, alone or inside `OPEN` (R36): any other
command keeps the flag or clears it. -/
theorem afterCommand_vfy (i : Instr) (s : State) (h : (afterCommand i s).vfy = true) :
    (i ∈ [Instr.verify, .openRecord] ∧ (afterCommand i s).err = .ok) ∨ s.vfy = true := by
  cases i with
  | verify => exact .inl ⟨by simp, (verify_vfy_iff _ s).1 h⟩
  | openRecord => exact .inl ⟨by simp, (openRecord_vfy_iff _ s).1 h⟩
  | unpack => simp [afterCommand, unpack_vfy] at h
  | ckgen => simp [afterCommand, ckgen] at h
  | zeroize => simp [afterCommand, zeroize] at h
  | encrypt =>
    rcases encrypt_cases csbConfig s with ⟨_, e⟩ | ⟨_, e⟩ <;> simp_all [afterCommand]
  | sealRecord =>
    by_cases hk : s.kmask = 0xFF#8
    · simp [afterCommand, sealRecord_of_key _ hk, pack, ckgen] at h
    · simp_all [afterCommand, sealRecord_of_no_key]
  | nop => exact .inr h
  | clrw => exact .inr h
  | pack => exact .inr h
  | decrypt => exact .inr ((afterCommand_same (i := .decrypt) (p := .vfy) s (by decide)).symm.trans h)

theorem RecordLegal.setErr {s : State} (h : RecordLegal s) (c : ResultCode) : RecordLegal (s.setErr c) := h

/-- `VERIFY` sets the flag only on a record it found valid (R124). -/
theorem verify_recordLegal (s : State) : RecordLegal (verify csbConfig s) := by
  rcases verify_cases csbConfig s with ⟨_, e⟩ | ⟨_, _, e⟩ | ⟨hver, hck, e⟩ <;> rw [e]
  · exact recordLegal_of_vfy_false rfl
  · exact recordLegal_of_vfy_false rfl
  · exact fun _ => ⟨hver, hck⟩

/-- Every command that writes a field of the record writes `VFY` (R36, R44). -/
theorem mem_vfy_commands {p : Piece} {i : Instr} (hp : p ∈ recordPieces) (hi : i ∈ p.commands) :
    i ∈ Piece.vfy.commands := by
  simp only [recordPieces, List.mem_cons, List.not_mem_nil, or_false] at hp
  rcases hp with rfl | rfl | rfl | rfl | rfl <;> cases i <;> simp_all [Piece.commands]

theorem afterCommand_keeps_recordLegal (i : Instr) {s : State} (h : RecordLegal s) :
    RecordLegal (afterCommand i s) := by
  by_cases hi : i ∈ Piece.vfy.commands
  · cases i with
    | verify => exact verify_recordLegal s
    | openRecord =>
      by_cases hok : (unpack s).err = .ok
      · simpa only [afterCommand, openRecord_of_ok _ hok] using verify_recordLegal _
      · simpa only [afterCommand, openRecord_of_error _ hok] using recordLegal_of_vfy_false (unpack_vfy s)
    | unpack => exact recordLegal_of_vfy_false (unpack_vfy s)
    | encrypt =>
      rcases encrypt_cases csbConfig s with ⟨_, e⟩ | ⟨_, e⟩ <;> simp only [afterCommand, e]
      · exact h.setErr _
      · exact recordLegal_of_vfy_false rfl
    | ckgen => exact recordLegal_of_vfy_false rfl
    | sealRecord =>
      by_cases hk : s.kmask = 0xFF#8
      · exact recordLegal_of_vfy_false (by simp [afterCommand, sealRecord_of_key _ hk, pack, ckgen])
      · simpa only [afterCommand, sealRecord_of_no_key _ hk] using h.setErr _
    | zeroize => exact recordLegal_of_vfy_false rfl
    | _ => simp [Piece.commands] at hi
  · exact h.of_same fun p hp => afterCommand_same s (mt (mem_vfy_commands hp) hi)

/-! ### The key -/

theorem unpack_keeps_keyLegal {s : State} (h : KeyLegal s) : KeyLegal (unpack s) := by
  rcases unpack_cases s with ⟨_, e⟩ | ⟨_, _, e⟩ | ⟨_, _, e⟩ <;> rw [e]
  · exact h
  · exact h
  · exact keyLegal_of_zero rfl

theorem afterCommand_keeps_keyLegal (i : Instr) {s : State} (h : KeyLegal s) : KeyLegal (afterCommand i s) := by
  by_cases hi : i ∈ Piece.key.commands
  · cases i with
    | unpack => exact unpack_keeps_keyLegal h
    | openRecord =>
      by_cases hok : (unpack s).err = .ok
      · simp only [afterCommand, openRecord_of_ok _ hok]
        exact (unpack_keeps_keyLegal h).of_same (verify_same _ _ (by simp [Piece.commands]))
      · simpa only [afterCommand, openRecord_of_error _ hok] using unpack_keeps_keyLegal h
    | zeroize => exact keyLegal_of_zero rfl
    | _ => simp [Piece.commands] at hi
  · exact h.of_same (afterCommand_same s hi)

/-- A write of a key word keeps the key legal: it sets the mask bit of the one word it changes (R34, R35). -/
theorem keyLegal_setWordOf {s : State} (h : KeyLegal s) (j : Fin 8) (v : Word) :
    KeyLegal { s with key := setWordOf 8 s.key j.val v, kmask := s.kmask ||| (1#8 <<< j.val) } := by
  intro i hi hunset
  have hbits : s.kmask.getLsbD i = false ∧ i ≠ j.val := by
    simp only [BitVec.getLsbD_or, Bool.or_eq_false_iff] at hunset
    refine ⟨hunset.1, ?_⟩
    rintro rfl
    simp at hunset
  calc wordOf 8 (setWordOf 8 s.key j.val v) i = wordOf 8 s.key i :=
        wordOf_setWordOf_of_ne 8 s.key i j.val v hi j.isLt hbits.2
    _ = 0#32 := h i hi hbits.1

/-! ### Every step keeps the invariant -/

theorem afterCommand_keeps_legalState (i : Instr) {s : State} (h : LegalState s) :
    LegalState (afterCommand i s) := by
  obtain ⟨hbuffer, hrecord, hkey⟩ := (legalState_iff s).1 h
  exact (legalState_iff _).2 ⟨afterCommand_keeps_bufferLegal i hbuffer, afterCommand_keeps_recordLegal i hrecord,
    afterCommand_keeps_keyLegal i hkey⟩

theorem eq_wpush_of_offset {r : Reg} (h : r.offset ∈ Piece.buffer.offsets) : r = .wpush := by
  have hr := regAt_offset r
  rw [List.mem_singleton.1 h] at hr
  exact (Option.some.inj hr).symm

/-- A write to a data register keeps the invariant: a write to the record clears `VFY`, one to the salt drops the
key, one to the key sets its mask bit (R54). -/
theorem writeReg_keeps_legalState {r : Reg} {v : Word} {s u : State} (hr : r ≠ .cmd)
    (hu : writeReg r v s = .next u) (h : LegalState s) : LegalState u := by
  obtain ⟨hbuffer, hrecord, hkey⟩ := (legalState_iff s).1 h
  by_cases hw : r.offset ∈ Piece.buffer.offsets
  · obtain rfl := eq_wpush_of_offset hw
    cases hu
    exact (legalState_iff _).2 ⟨push_keeps_bufferLegal v hbuffer,
      hrecord.of_same fun p hp => push_same v s (by rintro rfl; simp [recordPieces] at hp),
      hkey.of_same (push_same v s (by simp))⟩
  refine (legalState_iff u).2 ⟨hbuffer.of_same (writeReg_same hr hu hw), ?_⟩
  cases r with
  | cmd => exact absurd rfl hr
  | wpush => exact absurd (by decide) hw
  | ver => cases hu; exact ⟨recordLegal_of_vfy_false rfl, hkey⟩
  | cksum => cases hu; exact ⟨recordLegal_of_vfy_false rfl, hkey⟩
  | ct j => cases hu; exact ⟨recordLegal_of_vfy_false rfl, hkey⟩
  | salt j => cases hu; exact ⟨recordLegal_of_vfy_false rfl, keyLegal_of_zero rfl⟩
  | key j => cases hu; exact ⟨hrecord, keyLegal_setWordOf hkey j v⟩
  | _ => cases hu; exact ⟨hrecord, hkey⟩

/-- The host's side of the bus is no part of the invariant. -/
theorem legalState_host_side {s : State} (h : LegalState s) (rest : List HostEvent) (y : Option Reply) :
    LegalState { s with script := rest, reply := y } := by
  obtain ⟨hc, hz, hl, hb, hu, hv, hk⟩ := h
  exact ⟨hc, hz, hl, hb, hu, hv, hk⟩

/-- Settles O52: only the reset, a command or a write to a data register touches the state of the CSB, and each of
them keeps the invariant. -/
theorem invariantKeptByEveryStep : Obligations.InvariantKeptByEveryStep := by
  intro s t h hstep
  rcases step_next_cases hstep with ⟨rest, y, rfl⟩ | ⟨rest, _, rfl⟩ | ⟨r, v, rest, u, _, hu, rfl⟩
  · exact legalState_host_side h rest y
  · exact legalState_host_side invariantAtReset rest none
  have hs := legalState_host_side h rest s.reply
  refine legalState_host_side ?_ u.script (some .written)
  by_cases hr : r = .cmd
  · subst hr
    rcases runCommand_cases v { s with script := rest } with e | ⟨i, _, e⟩ <;> cases e.symm.trans hu
    · obtain ⟨hbuffer, hrecord, hkey⟩ := (legalState_iff _).1 hs
      exact (legalState_iff _).2 ⟨hbuffer.of_same (setErr_same _ _ (by simp)), hrecord, hkey⟩
    · exact afterCommand_keeps_legalState i hs
  · exact writeReg_keeps_legalState hr hu hs

/-! ### Who can change what, and who can set a flag -/

/-- Settles O48: each clause is a row of the table, `step_same`. -/
theorem onlyTheListedWritersChangeState : Obligations.OnlyTheListedWritersChangeState := by
  intro s t hstep hreset
  have row (p : Piece) (h : ¬ p.Same s t) : NextWrites s p.offsets ∨ NextCommands s p.commands :=
    (step_same hstep hreset).resolve_left h
  refine ⟨fun h => row .buffer ?_, row .ver, row .ct, row .salt, row .ck, row .bday, row .ent,
    fun h => row .key ?_, row .vfy, row .ptv, fun h => (row .err h).elim id nextWrites_cmd_of_nextCommands⟩
  · rintro ⟨hidx, hwcnt, hbadv, hbadpos⟩
    simp [hidx, hwcnt, hbadv, hbadpos] at h
  · rintro ⟨hkey, hkmask⟩
    simp [hkey, hkmask] at h

/-- No write to a register other than `CMD` sets a flag: it keeps or clears `VFY` and `PTV` (R36, R37, R54). -/
theorem writeReg_flags {r : Reg} {v : Word} {s u : State} (hr : r ≠ .cmd) (hu : writeReg r v s = .next u) :
    (u.vfy = true → s.vfy = true) ∧ (u.ptv = true → s.ptv = true) := by
  cases r with
  | cmd => exact absurd rfl hr
  | wpush =>
    cases hu
    exact ⟨(push_same (p := .vfy) v s (by simp)).symm.trans, (push_same (p := .ptv) v s (by simp)).symm.trans⟩
  | _ => cases hu; simp

/-- A flag that the host's side of the bus, the reset, an illegal word and the writes to data registers never set, and
of the commands only those of `is` and only with the result `OK`, is set by no other step. -/
theorem flag_set_only_by_command {flag : State → Bool} {is : List Instr}
    (hside : ∀ s rest y, flag { s with script := rest, reply := y } = flag s) (hreset : flag State.reset = false)
    (hillegal : ∀ s, flag (s.setErr .illegal) = flag s)
    (hwrite : ∀ {r v s u}, r ≠ .cmd → writeReg r v s = .next u → flag u = true → flag s = true)
    (hcommand : ∀ i s, flag (afterCommand i s) = true →
      (i ∈ is ∧ (afterCommand i s).err = .ok) ∨ flag s = true)
    {s t : State} (hstep : step s = .next t) (hbefore : flag s = false) (hafter : flag t = true) :
    NextCommands s is ∧ t.err = .ok := by
  rcases step_next_cases hstep with ⟨rest, y, rfl⟩ | ⟨rest, _, rfl⟩ | ⟨r, v, rest, u, hs, hu, rfl⟩
  · simp [hside, hbefore] at hafter
  · exact absurd ((hside State.reset rest none).symm.trans hafter) (by simp [hreset])
  have hclear : flag { s with script := rest } = false := (hside s rest s.reply).trans hbefore
  have hset : flag u = true := (hside u u.script (some .written)).symm.trans hafter
  by_cases hr : r = .cmd
  · subst hr
    rcases runCommand_cases v { s with script := rest } with e | ⟨i, hi, e⟩ <;> cases e.symm.trans hu
    · simp [hillegal, hclear] at hset
    · rcases hcommand i _ hset with ⟨hmem, herr⟩ | hset'
      · exact ⟨⟨v, i, rest, hs, hi, hmem⟩, herr⟩
      · simp [hclear] at hset'
  · exact absurd (hwrite hr hu hset) (by simp [hclear])

/-- Settles O49: a passing `VERIFY`, alone or inside `OPEN`, is what sets the flag. -/
theorem vfySetOnlyByPassingVerify : Obligations.VfySetOnlyByPassingVerify := fun _ _ =>
  flag_set_only_by_command (flag := State.vfy) (fun _ _ _ => rfl) rfl (fun _ => rfl)
    (fun hr hu => (writeReg_flags hr hu).1) afterCommand_vfy

theorem unpack_ptv {s : State} (h : (unpack s).ptv = true) : s.ptv = true := by
  rcases unpack_cases s with ⟨_, e⟩ | ⟨_, _, e⟩ | ⟨_, _, e⟩ <;> rw [e] at h
  · cases h
  · cases h
  · exact h

theorem verify_ptv {cfg : Config} {s : State} (h : (verify cfg s).ptv = true) : s.ptv = true := by
  rcases verify_cases cfg s with ⟨_, e⟩ | ⟨_, _, e⟩ | ⟨_, _, e⟩ <;> rw [e] at h
  · cases h
  · cases h
  · exact h

/-- The one command that leaves a set `PTV` of its own is a `DECRYPT` that delivers (R37). -/
theorem afterCommand_ptv (i : Instr) (s : State) (h : (afterCommand i s).ptv = true) :
    (i ∈ [Instr.decrypt] ∧ (afterCommand i s).err = .ok) ∨ s.ptv = true := by
  by_cases hi : i ∈ Piece.ptv.commands
  · cases i with
    | decrypt =>
      rcases decrypt_cases csbConfig s with ⟨_, e⟩ | ⟨_, _, _, e⟩ | ⟨_, _, _, _, e⟩ <;>
        simp only [afterCommand, e] at h ⊢
      · exact .inr h
      · cases h
      · exact .inl ⟨by simp, rfl⟩
    | unpack => exact .inr (unpack_ptv h)
    | verify => exact .inr (verify_ptv h)
    | openRecord =>
      by_cases hok : (unpack s).err = .ok
      · simp only [afterCommand, openRecord_of_ok _ hok] at h
        exact .inr (unpack_ptv (verify_ptv h))
      · simp only [afterCommand, openRecord_of_error _ hok] at h
        exact .inr (unpack_ptv h)
    | zeroize => cases h
    | _ => simp [Piece.commands] at hi
  · exact .inr ((afterCommand_same s hi).symm.trans h)

/-- Settles O50: a `DECRYPT` that delivers is what sets the flag. -/
theorem ptvSetOnlyByDecrypt : Obligations.PtvSetOnlyByDecrypt := fun _ _ =>
  flag_set_only_by_command (flag := State.ptv) (fun _ _ _ => rfl) rfl (fun _ => rfl)
    (fun hr hu => (writeReg_flags hr hu).2) afterCommand_ptv

end Sys2Proof.Proofs
end

section
/-! PROOFS. `10_state.md`: what single accesses and commands do to the state (R26 to R35, R39, R40, R42, R54). -/

open Sys2Proof Sys2Proof.Machine

namespace Sys2Proof.Proofs

/-! ### One access to one register -/

/-- A step with an act first on the script serves that act. -/
theorem step_serves (s : State) (e : HostEvent) (rest : List HostEvent) :
    step { s with script := e :: rest } = serve e { s with script := rest } := step_of_cons rfl

/-- A 32-bit write to a register that takes it is answered `OKAY` around the register's own effect (R52, R54). -/
theorem step_write_reg (r : Reg) (h : modeError .write r.mode = none) (s : State) (rest : List HostEvent) (v : Word) :
    step { s with script := .write r.offset 4 v :: rest } =
      mapNext (fun t => t.answer .written) (writeReg r v { s with script := rest }) := by
  rw [step_serves]
  exact busWrite_offset r h v _

/-- A 32-bit read of a register that takes it returns its word and changes nothing (R52, R53). -/
theorem step_read_reg (r : Reg) (h : modeError .read r.mode = none) (s : State) (rest : List HostEvent) :
    step { s with script := .read r.offset 4 :: rest } =
      .next { s with script := rest, reply := some (.data (readReg s r)) } := by
  have hword : readReg { s with script := rest } r = readReg s r := by cases r <;> rfl
  rw [step_serves, ← hword]
  exact congrArg _ (busRead_offset r h _)

/-- A 32-bit read of a register that takes none is refused by name (R52). -/
theorem step_read_refused (r : Reg) {k : Fault} (h : modeError .read r.mode = some k) (s : State)
    (rest : List HostEvent) :
    step { s with script := .read r.offset 4 :: rest } = .next { s with script := rest, reply := some (.error k) } := by
  rw [step_serves]
  simp only [serve, busRead, checkAccess_offset_error _ r h]
  rfl

/-- A 32-bit write to a register that takes none is refused by name (R52). -/
theorem step_write_refused (r : Reg) {k : Fault} (h : modeError .write r.mode = some k) (s : State)
    (rest : List HostEvent) (v : Word) :
    step { s with script := .write r.offset 4 v :: rest } =
      .next { s with script := rest, reply := some (.error k) } := by
  rw [step_serves]
  simp only [serve, busWrite, checkAccess_offset_error _ r h]
  rfl

/-- Settles O6: whatever the word, `runCommand` answers next and leaves the script; and `CMD` is write only. -/
theorem cmdWriteAnswersOkay : Obligations.CmdWriteAnswersOkay := by
  refine fun s rest => ⟨fun w => ?_, step_read_refused .cmd rfl s rest⟩
  rw [step_cmd_write]
  rcases runCommand_cases w { s with script := rest } with e | ⟨i, _, e⟩ <;> rw [e]
  · exact ⟨_, rfl, rfl, rfl⟩
  · exact ⟨_, rfl, rfl, (exec_host_side (exec_eq_afterCommand i _)).1⟩

/-! ### Writes to the data registers -/

/-- Settles O14: `writeReg` keeps the low bits of the data, which are a truncation (R87). -/
theorem writeVersionChecksumBirthday : Obligations.WriteVersionChecksumBirthday := by
  intro s rest v
  rw [← BitVec.setWidth_eq_extractLsb' (by decide), ← BitVec.setWidth_eq_extractLsb' (by decide)]
  exact ⟨step_write_reg .ver rfl s rest v, step_write_reg .cksum rfl s rest v, step_write_reg .bday rfl s rest v⟩

/-- Settles O15: the field written is `setWordOf`, known bit by bit (R43). -/
theorem writeCiphertextWord : Obligations.WriteCiphertextWord := fun s rest v j hj =>
  ⟨setWordOf 5 s.ct j v, step_write_reg (.ct ⟨j, hj⟩) rfl s rest v, getLsbD_setWordOf 5 s.ct j v⟩

/-- Settles O16: as O15, for the words of `ENT`. -/
theorem writeEntropyWord : Obligations.WriteEntropyWord := fun s rest v j hj =>
  ⟨setWordOf 4 s.ent j v, step_write_reg (.ent ⟨j, hj⟩) rfl s rest v, getLsbD_setWordOf 4 s.ent j v⟩

/-- Settles O17: as O15, around `writeSalt`. -/
theorem writeSaltWordDropsTheKey : Obligations.WriteSaltWordDropsTheKey := fun s rest v j hj =>
  ⟨setWordOf 3 s.salt j v, step_write_reg (.salt ⟨j, hj⟩) rfl s rest v, getLsbD_setWordOf 3 s.salt j v⟩

/-- Setting bit `j` of the key mask (R35). -/
theorem getLsbD_or_bit (m : BitVec 8) (j b : Nat) (hb : b < 8) :
    (m ||| (1#8 <<< j)).getLsbD b = (decide (b = j) || m.getLsbD b) := by
  by_cases h : b = j
  · simp [h, h ▸ hb]
  · simp [hb, h]; omega

/-- Settles O18: as O15, with the mask bit of the word. -/
theorem writeKeyWordSetsItsMaskBit : Obligations.WriteKeyWordSetsItsMaskBit := fun s rest v j hj =>
  ⟨setWordOf 8 s.key j v, s.kmask ||| (1#8 <<< j), step_write_reg (.key ⟨j, hj⟩) rfl s rest v,
    getLsbD_setWordOf 8 s.key j v, getLsbD_or_bit s.kmask j⟩

/-! ### The `STATUS` word -/

/-- Bit `b` of the `STATUS` word (R39), field by field from the low end. -/
theorem getLsbD_status (s : State) (b : Nat) (hb : b < 32) : s.status.getLsbD b =
    if b < 4 then s.err.code.getLsbD b
    else if b = 4 then s.vfy
    else if b = 5 then s.keyv
    else if b = 6 then s.ptv
    else if b = 7 then s.badv
    else if b < 13 then s.wcnt.getLsbD (b - 8)
    else if b < 16 then false
    else if b < 21 then s.badpos.getLsbD (b - 16)
    else false := by
  simp only [State.status, BitVec.getLsbD_append, BitVec.getLsbD_ofBool]
  interval_cases b <;> simp

/-- A slice of the `STATUS` word is known from its bits. -/
theorem extractLsb'_status (s : State) (k n : Nat) (f : BitVec n)
    (h : ∀ b, b < n → s.status.getLsbD (k + b) = f.getLsbD b) : s.status.extractLsb' k n = f := by
  apply BitVec.eq_of_getLsbD_eq
  intro b hb
  simp only [BitVec.getLsbD_extractLsb', hb, h, decide_true, Bool.true_and]

/-- Settles O11: `STATUS` is read as the word whose bits `getLsbD_status` gives. -/
theorem statusWordLayout : Obligations.StatusWordLayout := by
  refine ⟨fun s rest => ⟨s.status, step_read_reg .status rfl s rest, ?_⟩,
    fun s rest v => step_write_refused .status rfl s rest v, rfl, rfl, rfl, rfl, rfl, rfl, rfl, rfl, rfl⟩
  have bit := getLsbD_status s
  refine ⟨?err, ?vfy, ?keyv, ?ptv, ?badv, ?wcnt, ?rsv13, ?badpos, ?rsv21⟩
  case err => exact extractLsb'_status s 0 4 _ fun b hb => by rw [bit _ (by omega), if_pos (by omega), Nat.zero_add]
  case vfy => exact bit 4 (by decide)
  case keyv => exact bit 5 (by decide)
  case ptv => exact bit 6 (by decide)
  case badv => exact bit 7 (by decide)
  case wcnt => exact extractLsb'_status s 8 5 _ fun b hb => by rw [bit _ (by omega)]; interval_cases b <;> rfl
  case rsv13 => exact extractLsb'_status s 13 3 _ fun b hb => by rw [bit _ (by omega)]; interval_cases b <;> rfl
  case badpos => exact extractLsb'_status s 16 5 _ fun b hb => by rw [bit _ (by omega)]; interval_cases b <;> rfl
  case rsv21 => exact extractLsb'_status s 21 11 _ fun b hb => by rw [bit _ (by omega)]; interval_cases b <;> rfl

/-! ### Reads and the key -/

/-- No register's read looks at `KEY` (R53), and no check does (R52). -/
theorem busRead_with_key (a : Offset) (size : Nat) (s : State) (k : Key) :
    busRead a size { s with key := k } = { busRead a size s with key := k } := by
  have hword (r : Reg) : readReg { s with key := k } r = readReg s r := by cases r <;> rfl
  cases h : checkAccess .read a size with
  | error e => simp only [busRead, h]; rfl
  | ok r => simp only [busRead, h, hword]; rfl

/-- Settles O51: the read of the step is `busRead`, and changing the key commutes with it. -/
theorem keyCannotBeReadBack : Obligations.KeyCannotBeReadBack := by
  intro s k rest a size
  refine ⟨busRead a size { s with script := rest }, step_serves s _ rest, ?_⟩
  refine (step_serves { s with key := k } _ rest).trans ?_
  exact congrArg _ (busRead_with_key a size { s with script := rest } k)

/-! ### All zero -/

theorem allZero_reset : AllZero State.reset where
  idx i h := by simp
  wcnt := rfl
  badv := rfl
  badpos := rfl
  ver := rfl
  ct := rfl
  salt := rfl
  ck := rfl
  bday := rfl
  ent := rfl
  key := rfl
  kmask := rfl
  vfy := rfl
  ptv := rfl
  err := rfl

/-- The host's side of the bus is no piece of state (R20). -/
theorem allZero_host_side {s : State} (h : AllZero s) (rest : List HostEvent) (y : Option Reply) :
    AllZero { s with script := rest, reply := y } := by
  cases h
  constructor <;> assumption

theorem status_of_allZero {s : State} (h : AllZero s) : s.status = 0#32 := by
  simp [State.status, State.keyv, ResultCode.code, h.wcnt, h.badv, h.badpos, h.kmask, h.vfy, h.ptv, h.err]

theorem read_status_of_allZero {s : State} (h : AllZero s) :
    step { s with script := [.read 0x04#8 4] } = .next { s with script := [], reply := some (.data 0#32) } := by
  rw [← status_of_allZero h]
  exact step_read_reg .status rfl s []

/-- Settles O9: the reset and `ZEROIZE` both leave the reset state, up to the host's side of the bus. -/
theorem allZeroAfterResetAndZeroize : Obligations.AllZeroAfterResetAndZeroize := by
  refine ⟨allZero_reset, fun s rest => ?_, fun s => ?_⟩
  · have h : AllZero { State.reset with script := rest } := allZero_host_side allZero_reset rest none
    exact ⟨_, step_serves s _ rest, h, rfl, read_status_of_allZero h⟩
  · have h : AllZero (zeroize s) := allZero_host_side allZero_reset s.script s.reply
    exact ⟨_, rfl, h, read_status_of_allZero h⟩

end Sys2Proof.Proofs
end

section
/-! PROOFS. `20_memory.md`: which accesses to the window are answered `OKAY` (R51, R52, R55), and what a read
returns (R53). -/

open Sys2Proof Sys2Proof.Machine

namespace Sys2Proof.Proofs

/-! ### Which accesses pass the checks -/

/-- The offsets of the map's registers that take an access of the direction (R51). -/
def takenOffsets : Dir → List Offset
  | .read => readableOffsets
  | .write => writableOffsets

/-- The lists of the map agree with `regAt` and the modes: one table of 256 offsets per direction (R51). -/
theorem mem_takenOffsets_iff (d : Dir) (a : Offset) :
    a ∈ takenOffsets d ↔ ∃ r, regAt a = some r ∧ modeError d r.mode = none := by
  have table : ∀ a : Offset,
      a ∈ takenOffsets d ↔ (regAt a).any (fun r => decide (modeError d r.mode = none)) = true := by
    cases d <;> decide
  rw [table a, Option.any_eq_true]
  simp only [decide_eq_true_iff]

/-- An access passes the checks of R52 exactly when it is 32 bits wide at an offset that takes it. That the offset
is aligned follows: every register's is. -/
theorem checkAccess_accepts_iff (d : Dir) (a : Offset) (size : Nat) :
    (∃ r, checkAccess d a size = .ok r) ↔ size = 4 ∧ a ∈ takenOffsets d := by
  rw [mem_takenOffsets_iff]
  constructor
  · rintro ⟨r, haccept⟩
    obtain ⟨hsize, hreg, hmode⟩ := checkAccess_ok haccept
    exact ⟨hsize, r, hreg, hmode⟩
  · rintro ⟨rfl, r, hreg, hmode⟩
    obtain rfl := offset_of_regAt hreg
    exact ⟨r, checkAccess_offset d r hmode⟩

/-! ### Every access is answered -/

theorem push_script (v : Word) (s : State) : (push v s).script = s.script := by
  rcases Nat.lt_or_ge s.wcnt.toNat 24 with hroom | hfull
  · rw [push_of_room v hroom]
  · rw [push_of_full v hfull]

/-- A write to `CMD` ends whatever the word, and leaves what the host does next. -/
theorem runCommand_answers_next (w : Word) (s : State) : ∃ u, runCommand w s = .next u ∧ u.script = s.script := by
  rcases runCommand_cases w s with e | ⟨i, _, e⟩
  · exact ⟨_, e, rfl⟩
  · exact ⟨_, e, (exec_host_side (exec_eq_afterCommand i s)).1⟩

theorem writeReg_answers_next (r : Reg) (v : Word) (s : State) :
    ∃ u, writeReg r v s = .next u ∧ u.script = s.script := by
  cases r with
  | cmd => exact runCommand_answers_next v s
  | wpush => exact ⟨_, rfl, push_script v s⟩
  | _ => exact ⟨_, rfl, rfl⟩

/-- A read is answered, `OKAY` exactly when it passes the checks (R52). -/
theorem serve_read_answers (a : Offset) (size : Nat) (s : State) :
    ∃ y : Reply, serve (.read a size) s = .next (s.answer y) ∧
      (y.okay = true ↔ ∃ r, checkAccess .read a size = .ok r) := by
  rcases busRead_cases a size s with ⟨k, hrefuse, e⟩ | ⟨r, haccept, e⟩
  · exact ⟨.error k, congrArg _ e, by simp [Reply.okay, hrefuse]⟩
  · exact ⟨.data (readReg s r), congrArg _ e, iff_of_true rfl ⟨r, haccept⟩⟩

/-- A write is answered, `OKAY` exactly when it passes the checks (R52). -/
theorem serve_write_answers (a : Offset) (size : Nat) (v : Word) (s : State) :
    ∃ (u : State) (y : Reply), serve (.write a size v) s = .next (u.answer y) ∧ u.script = s.script ∧
      (y.okay = true ↔ ∃ r, checkAccess .write a size = .ok r) := by
  rcases busWrite_cases a size v s with ⟨k, hrefuse, e⟩ | ⟨r, haccept, e⟩
  · exact ⟨s, .error k, e, rfl, by simp [Reply.okay, hrefuse]⟩
  · obtain ⟨u, hu, hscript⟩ := writeReg_answers_next r v s
    exact ⟨u, .written, e.trans (congrArg _ hu), hscript, iff_of_true rfl ⟨r, haccept⟩⟩

/-- Settles O13: each access is answered, and the accesses that pass the checks are those of
`checkAccess_accepts_iff`. -/
theorem okayExactlyForTheMappedRegisters : Obligations.OkayExactlyForTheMappedRegisters := by
  intro s rest a size v
  constructor
  · obtain ⟨y, e, hokay⟩ := serve_read_answers a size { s with script := rest }
    exact ⟨_, y, (step_serves s _ rest).trans e, rfl, rfl,
      hokay.trans (checkAccess_accepts_iff .read a size)⟩
  · obtain ⟨u, y, e, hscript, hokay⟩ := serve_write_answers a size v { s with script := rest }
    exact ⟨_, y, (step_serves s _ rest).trans e, hscript, rfl,
      hokay.trans (checkAccess_accepts_iff .write a size)⟩

/-! ### What a read returns -/

/-- Word `j` begins `32 * j` bits below the most significant word (R43). -/
theorem wordShift_eq (m j : Nat) : wordShift m j = 32 * (m - 1) - 32 * j := Nat.mul_sub 32 (m - 1) j

/-- A read of a register whose word is the `j`th of a field returns the field's slice (R43, R53). -/
theorem step_read_word {n : Nat} (r : Reg) (h : modeError .read r.mode = none) (s : State) (rest : List HostEvent)
    (m j : Nat) (f : BitVec n) (hword : readReg s r = wordOf m f j) :
    step { s with script := .read r.offset 4 :: rest } =
      .next { s with script := rest, reply := some (.data (f.extractLsb' (32 * (m - 1) - 32 * j) 32)) } := by
  rw [step_read_reg r h, hword, wordOf, wordShift_eq]

/-- Settles O10: each offset is that of a readable register, whose word is `readReg`'s. -/
theorem readsReturnTheRegisters : Obligations.ReadsReturnTheRegisters := by
  intro s rest
  refine ⟨?status, ?ver, ?bday, ?cksum, ?ent, ?ct, ?salt, ?idx⟩
  case status => exact step_read_reg .status rfl s rest
  case ver => exact step_read_reg .ver rfl s rest
  case bday => exact step_read_reg .bday rfl s rest
  case cksum => exact step_read_reg .cksum rfl s rest
  case ent => exact fun j hj => step_read_word (.ent ⟨j, hj⟩) rfl s rest 4 j s.ent rfl
  case ct => exact fun j hj => step_read_word (.ct ⟨j, hj⟩) rfl s rest 5 j s.ct rfl
  case salt => exact fun j hj => step_read_word (.salt ⟨j, hj⟩) rfl s rest 3 j s.salt rfl
  case idx => exact fun i hi => step_read_reg (.idx ⟨i, hi⟩) rfl s rest

end Sys2Proof.Proofs
end

section
/-! PROOFS. `30_encoding.md`: the command word and its opcode map (R80, R84, R85), and what the load pseudo-instructions
leave in their registers (R90). -/

open Sys2Proof Sys2Proof.Machine

namespace Sys2Proof.Proofs

/-! ### The command word -/

/-- `Laws.LegalWord`, its eleven cases put together (R80, R84). -/
theorem legalWord (i : Instr) : Laws.LegalWord.Statement i := by
  cases i with
  | nop => exact Laws.LegalWord.nop
  | clrw => exact Laws.LegalWord.clrw
  | unpack => exact Laws.LegalWord.unpack
  | pack => exact Laws.LegalWord.pack
  | verify => exact Laws.LegalWord.verify
  | ckgen => exact Laws.LegalWord.ckgen
  | decrypt => exact Laws.LegalWord.decrypt
  | encrypt => exact Laws.LegalWord.encrypt
  | openRecord => exact Laws.LegalWord.openRecord
  | sealRecord => exact Laws.LegalWord.sealRecord
  | zeroize => exact Laws.LegalWord.zeroize

/-- The fields `rsv` and `op` are the whole word (R80). -/
theorem word_eq_iff_fields (w w' : Word) : w = w' ↔ rsvField w = rsvField w' ∧ opField w = opField w' := by
  constructor
  · rintro rfl
    exact ⟨rfl, rfl⟩
  · rintro ⟨hrsv, hop⟩
    have hsplit (w : Word) : (rsvField w ++ opField w : Word) = w := BitVec.extractLsb'_append_extractLsb'
    rw [← hsplit w, ← hsplit w', hrsv, hop]

/-- The two checks of the decoder, in their order (R85, R168). -/
theorem decode_eq_ok_iff (w : Word) (i : Instr) :
    decode w = .ok i ↔ rsvField w = 0#24 ∧ opcodeInstr (opField w) = some i := by
  by_cases hrsv : rsvField w = 0#24
  · cases hop : opcodeInstr (opField w) <;> simp [decode, hrsv, hop]
  · simp [decode, hrsv]

/-- The opcode map read backwards: an opcode selects a row exactly when it is that of the row's `match` (R84). -/
theorem opcodeInstr_eq_some_iff (op : BitVec 8) (i : Instr) :
    opcodeInstr op = some i ↔ opField (encode i) = op := by
  constructor
  · intro hrow
    have table : ∀ op, (opcodeInstr op).all (fun i => opField (encode i) = op) = true := by decide
    simpa [hrow] using table op
  · rintro rfl
    cases i <;> rfl

/-- A row's `mask` covers the whole word, so the word that selects the row is its `match` (R84). -/
theorem decode_eq_ok_iff_encode (w : Word) (i : Instr) : decode w = .ok i ↔ encode i = w := by
  obtain ⟨_, hrsv, _⟩ := legalWord i
  rw [decode_eq_ok_iff, opcodeInstr_eq_some_iff, word_eq_iff_fields, hrsv, eq_comm (a := 0#24)]

theorem decode_encode (i : Instr) : decode (encode i) = .ok i := (decode_eq_ok_iff_encode _ i).2 rfl

/-- The opcodes up to `0x0A` are the assigned ones (R84, R85). -/
theorem opcode_assigned_iff (op : BitVec 8) : (∃ i, opcodeInstr op = some i) ↔ op.toNat ≤ 0x0A := by
  constructor
  · rintro ⟨i, hrow⟩
    obtain ⟨_, _, hle⟩ := legalWord i
    rwa [(opcodeInstr_eq_some_iff op i).1 hrow] at hle
  · intro hle
    have table : ∀ op : BitVec 8, op.toNat ≤ 0x0A → (opcodeInstr op).isSome = true := by decide
    exact Option.isSome_iff_exists.1 (table op hle)

/-- Settles O2: the two fields of the word select the row, and the column `match` is `encode`. -/
theorem decodeEncodeAgree : Obligations.DecodeEncodeAgree :=
  ⟨decode_eq_ok_iff_encode, rfl, rfl, rfl, rfl, rfl, rfl, rfl, rfl, rfl, rfl, rfl⟩

/-- Settles O1: the decoder's two checks, the second of them by `opcode_assigned_iff`. -/
theorem commandWordLegality : Obligations.CommandWordLegality := by
  intro w
  calc (∃ i, decode w = .ok i)
      ↔ rsvField w = 0#24 ∧ ∃ i, opcodeInstr (opField w) = some i := by
        simp only [decode_eq_ok_iff, exists_and_left]
    _ ↔ rsvField w = 0#24 ∧ (opField w).toNat ≤ 0x0A := by rw [opcode_assigned_iff]

/-- Settles O3: the five commands are decoded from their `match`; the other two words fail a check each. -/
theorem decodesTableWords : Obligations.DecodesTableWords :=
  ⟨decode_encode .nop, decode_encode .pack, decode_encode .ckgen, decode_encode .decrypt,
    decode_encode .sealRecord, rfl, rfl⟩

/-! ### A field loaded word by word -/

/-- The field `f` with its word `j` made that of `g`. -/
def copyWord {n : Nat} (m : Nat) (g f : BitVec n) (j : Fin m) : BitVec n := setWordOf m f j.val (wordOf m g j.val)

/-- Copying the words at the positions `l` replaces these words and no others (R43). -/
theorem wordOf_foldl_copyWord {n m : Nat} (g : BitVec n) (l : List (Fin m)) (f : BitVec n) (i : Fin m) :
    wordOf m (l.foldl (copyWord m g) f) i.val = if i ∈ l then wordOf m g i.val else wordOf m f i.val := by
  induction l generalizing f with
  | nil => simp
  | cons j l ih =>
    rw [List.foldl_cons, ih]
    by_cases hl : i ∈ l
    · simp [hl]
    · by_cases hj : i = j
      · simp [hj, copyWord, wordOf_setWordOf_wordOf]
      · simp [hl, hj, copyWord, wordOf_setWordOf_of_ne m f i j _ i.isLt j.isLt (Fin.val_ne_of_ne hj)]

/-- Copying every word of `g` leaves `g`, whatever the field held before (R43). -/
theorem foldl_copyWord_finRange {n m : Nat} (hm : n ≤ 32 * m) (g f : BitVec n) :
    (List.finRange m).foldl (copyWord m g) f = g := by
  refine eq_of_wordOf_eq m hm _ _ fun j hj => ?_
  simpa using wordOf_foldl_copyWord g (List.finRange m) f ⟨j, hj⟩

/-- What a write of word `j` of `key` makes of `KEY` and `KMASK` (R35, R54). -/
def copyKeyWord (key : Key) (f : Key × BitVec 8) (j : Fin 8) : Key × BitVec 8 :=
  (copyWord 8 key f.1 j, f.2 ||| (1#8 <<< j.val))

/-- Eight key words complete the mask (R35). -/
theorem foldl_copyKeyWord_finRange (key : Key) (f : Key × BitVec 8) :
    (List.finRange 8).foldl (copyKeyWord key) f = (key, 0xFF#8) := by
  have hmask : ∀ m : BitVec 8, (List.finRange 8).foldl (fun m j => m ||| (1#8 <<< j.val)) m = 0xFF#8 := by decide
  apply Prod.ext
  · exact (List.foldl_hom Prod.fst fun _ _ => rfl).symm.trans (foldl_copyWord_finRange (by decide) key f.1)
  · exact (List.foldl_hom Prod.snd fun _ _ => rfl).symm.trans (hmask f.2)

/-! ### The pseudo-instructions that load a field (R90)

A run lemma leaves what the host does next on the script, so that `LDREC` is a chain of them. -/

/-- A row of acts that each bring the value `x` of some registers to `upd x b`. `put x` is the state in which these
registers hold `x` and an act of the row has been served; before the first act they hold `x` in the state `s`. -/
theorem run_acts {α β : Type} (act : β → HostEvent) (upd : α → β → α) (put : α → State) {s : State} {x : α}
    (hfirst : ∀ b rest, step { s with script := act b :: rest } = .next { put (upd x b) with script := rest })
    (hnext : ∀ x b rest, step { put x with script := act b :: rest } = .next { put (upd x b) with script := rest })
    {l : List β} (hl : l ≠ []) (rest : List HostEvent) (k : Nat) :
    Host.Core.run Sys2Proof.core (l.length + k) { s with script := l.map act ++ rest } =
      Host.Core.run Sys2Proof.core k { put (l.foldl upd x) with script := rest } := by
  induction l generalizing s x with
  | nil => contradiction
  | cons b l ih =>
    rw [List.length_cons, Nat.add_right_comm, List.map_cons, List.cons_append, run_succ _ (hfirst b _)]
    by_cases hlast : l = []
    · simp [hlast]
    · exact ih (hnext (upd x b)) hlast

theorem run_ldKey (key : Key) (s : State) (rest : List HostEvent) (k : Nat) :
    Host.Core.run Sys2Proof.core (8 + k) { s with script := assemble (.ldKey key) ++ rest } =
      Host.Core.run Sys2Proof.core k
        { s with script := rest, reply := some .written, key := key, kmask := 0xFF#8 } := by
  have hwrite (s : State) (j : Fin 8) (rest) := step_write_reg (.key j) rfl s rest (wordOf 8 key j.val)
  have hrun := run_acts _ (copyKeyWord key) (fun f => { s with reply := some .written, key := f.1, kmask := f.2 })
    (x := (s.key, s.kmask)) (hwrite s) (fun _ => hwrite _) (l := List.finRange 8) (by simp) rest k
  rwa [foldl_copyKeyWord_finRange] at hrun

/-- A row of writes that bring the words of `g`, each by one, into a field of `m` words that holds `f` in the state
`s`; `put x` is as in `run_acts`. -/
theorem run_copyWords {n m : Nat} (g f : BitVec n) (reg : Fin m → Reg) (put : BitVec n → State) {s : State}
    (hfirst : ∀ j rest, step { s with script := wrEvent (reg j) (wordOf m g j.val) :: rest } =
      .next { put (copyWord m g f j) with script := rest })
    (hnext : ∀ x j rest, step { put x with script := wrEvent (reg j) (wordOf m g j.val) :: rest } =
      .next { put (copyWord m g x j) with script := rest })
    (hm : 0 < m ∧ n ≤ 32 * m) (rest : List HostEvent) (k : Nat) :
    Host.Core.run Sys2Proof.core (m + k)
        { s with script := (List.finRange m).map (fun j => wrEvent (reg j) (wordOf m g j.val)) ++ rest } =
      Host.Core.run Sys2Proof.core k { put g with script := rest } := by
  have hrow : List.finRange m ≠ [] := by
    rw [ne_eq, List.finRange_eq_nil_iff]
    omega
  have hrun := run_acts _ (copyWord m g) put hfirst hnext hrow rest k
  rwa [foldl_copyWord_finRange hm.2, List.length_finRange] at hrun

theorem run_ldSalt (n : Salt) (s : State) (rest : List HostEvent) (k : Nat) :
    Host.Core.run Sys2Proof.core (3 + k) { s with script := assemble (.ldSalt n) ++ rest } =
      Host.Core.run Sys2Proof.core k { s.writeSalt n with script := rest, reply := some .written } := by
  have hwrite (s : State) (j : Fin 3) (rest) := step_write_reg (.salt j) rfl s rest (wordOf 3 n j.val)
  exact run_copyWords n s.salt Reg.salt (fun x => (s.writeSalt x).answer .written)
    (hwrite s) (fun _ => hwrite _) (by decide) rest k

theorem run_ldEnt (e : Entropy) (s : State) (rest : List HostEvent) (k : Nat) :
    Host.Core.run Sys2Proof.core (4 + k) { s with script := assemble (.ldEnt e) ++ rest } =
      Host.Core.run Sys2Proof.core k { s with script := rest, reply := some .written, ent := e, ptv := false } := by
  have hwrite (s : State) (j : Fin 4) (rest) := step_write_reg (.ent j) rfl s rest (wordOf 4 e j.val)
  exact run_copyWords e s.ent Reg.ent (fun x => { s with reply := some .written, ent := x, ptv := false })
    (hwrite s) (fun _ => hwrite _) (by decide) rest k

theorem run_ldCt (c : Text) (s : State) (rest : List HostEvent) (k : Nat) :
    Host.Core.run Sys2Proof.core (5 + k) { s with script := assemble (.ldCt c) ++ rest } =
      Host.Core.run Sys2Proof.core k { s with script := rest, reply := some .written, ct := c, vfy := false } := by
  have hwrite (s : State) (j : Fin 5) (rest) := step_write_reg (.ct j) rfl s rest (wordOf 5 c j.val)
  exact run_copyWords c s.ct Reg.ct (fun x => { s with reply := some .written, ct := x, vfy := false })
    (hwrite s) (fun _ => hwrite _) (by decide) rest k

theorem assemble_ldRec (r : Record) (rest : List HostEvent) : assemble (.ldRec r) ++ rest =
    wrEvent .ver ((recVer r).setWidth 32) :: (assemble (.ldCt (recCt r)) ++
      (assemble (.ldSalt (recSalt r)) ++ wrEvent .cksum (recCk r) :: rest)) := by
  simp [assemble]

theorem run_ldRec (r : Record) (s : State) (rest : List HostEvent) (k : Nat) :
    Host.Core.run Sys2Proof.core (10 + k) { s with script := assemble (.ldRec r) ++ rest } =
      Host.Core.run Sys2Proof.core k { s.loadRecord r with script := rest, reply := some .written } := by
  have hcut : ((recVer r).setWidth 32).setWidth 8 = recVer r := by simp
  have hver (rest) : step { s with script := wrEvent .ver ((recVer r).setWidth 32) :: rest } =
      .next { s with script := rest, reply := some .written, ver := recVer r, vfy := false } :=
    (step_write_reg .ver rfl s rest _).trans (by simp only [writeReg, hcut]; rfl)
  rw [assemble_ldRec, show 10 + k = (5 + (3 + (k + 1))) + 1 by omega, run_succ _ (hver _)]
  have hct := run_ldCt (recCt r) { s with reply := some .written, ver := recVer r, vfy := false }
  have hsalt := run_ldSalt (recSalt r) { s with reply := some .written, ver := recVer r, ct := recCt r, vfy := false }
  refine (hct _ _).trans ((hsalt _ _).trans ?_)
  exact run_succ k (step_write_reg .cksum rfl _ rest _)

/-- Settles O57: the run of each pseudo-instruction, with nothing after it on the script. -/
theorem loadPseudoInstructions : Obligations.LoadPseudoInstructions := by
  intro s
  refine ⟨fun k => ?key, fun n => ?salt, fun e => ?ent, fun c => ?ct, fun r => ?record⟩
  case key => simpa using run_ldKey k s [] 0
  case salt => simpa using run_ldSalt n s [] 0
  case ent => simpa using run_ldEnt e s [] 0
  case ct => simpa using run_ldCt c s [] 0
  case record => simpa [recVer, recCt, recSalt, recCk] using run_ldRec r s [] 0

end Sys2Proof.Proofs
end

section
/-! PROOFS. `40_cipher_engine.md`: the laws of the cipher (R106 to R108), the commands `ENCRYPT` and `DECRYPT` (R110,
R111), and what `SEAL` packed, `OPEN` and `DECRYPT` give back (S1). -/

open Sys2Proof Sys2Proof.Machine

namespace Sys2Proof.Proofs

/-! ### The laws of the cipher -/

/-- Law 2 makes encryption injective, and the set of texts is finite (R108 a). -/
theorem enc_bijective {cfg : Config} (hlaw : cfg.RoundTrips) (k : Key) (n : Salt) :
    Function.Bijective (cfg.enc k n) := by
  refine Function.Injective.bijective_of_finite fun p q henc => ?_
  have hdec : some p = some q := by rw [← hlaw k n p, henc, hlaw k n q]
  exact Option.some.inj hdec

/-- Under law 2 `Dec` answers exactly the plaintext that encrypts to its ciphertext (R108 b, c). -/
theorem dec_eq_some_iff {cfg : Config} (hlaw : cfg.RoundTrips) (k : Key) (n : Salt) (c p : Text) :
    cfg.dec k n c = some p ↔ cfg.enc k n p = c := by
  constructor
  · intro hdec
    obtain ⟨q, rfl⟩ := (enc_bijective hlaw k n).surjective c
    rw [Option.some.inj ((hlaw k n q).symm.trans hdec)]
  · rintro rfl
    exact hlaw k n p

/-- Under law 2 every ciphertext has its plaintext, so that `Dec` never answers `AuthFail` (R108 b). -/
theorem dec_answers {cfg : Config} (hlaw : cfg.RoundTrips) (k : Key) (n : Salt) (c : Text) :
    ∃ p, cfg.dec k n c = some p ∧ cfg.enc k n p = c := by
  obtain ⟨p, henc⟩ := (enc_bijective hlaw k n).surjective c
  exact ⟨p, (dec_eq_some_iff hlaw k n c p).2 henc, henc⟩

/-- Settles O44: the machine's `Dec` is the inverse of the bijection that is its `Enc` (log entry 5). -/
theorem machineCipherRoundTrips : Obligations.MachineCipherRoundTrips :=
  fun k n p => congrArg some ((Config.wbc k n).symm_apply_apply p)

/-! ### `DECRYPT` and `ENCRYPT` -/

theorem decrypt_of_missing_flag (cfg : Config) {s : State} (h : s.vfy = false ∨ s.kmask ≠ 0xFF#8) :
    decrypt cfg s = s.setErr .seq := by
  rcases decrypt_cases cfg s with ⟨_, e⟩ | ⟨hvfy, hkey, _⟩ | ⟨hvfy, hkey, _⟩
  · exact e
  · simp [hvfy, hkey] at h
  · simp [hvfy, hkey] at h

theorem decrypt_of_reject {cfg : Config} {s : State} (hvfy : s.vfy = true) (hkey : s.kmask = 0xFF#8)
    (hdec : cfg.dec s.key s.salt s.ct = none) : decrypt cfg s = s.dropPlaintext.setErr .authfail := by
  rcases decrypt_cases cfg s with ⟨hflag, _⟩ | ⟨_, _, _, e⟩ | ⟨_, _, p, hsome, _⟩
  · exact absurd ⟨hvfy, hkey⟩ hflag
  · exact e
  · simp [hdec] at hsome

theorem decrypt_of_plaintext {cfg : Config} {s : State} {p : Text} (hvfy : s.vfy = true) (hkey : s.kmask = 0xFF#8)
    (hdec : cfg.dec s.key s.salt s.ct = some p) : decrypt cfg s = (s.deliver p).setErr .ok := by
  rcases decrypt_cases cfg s with ⟨hflag, _⟩ | ⟨_, _, hnone, _⟩ | ⟨_, _, q, hsome, e⟩
  · exact absurd ⟨hvfy, hkey⟩ hflag
  · simp [hdec] at hnone
  · rwa [Option.some.inj (hdec.symm.trans hsome)]

theorem encrypt_of_no_key (cfg : Config) {s : State} (h : s.kmask ≠ 0xFF#8) : encrypt cfg s = s.setErr .seq :=
  (encrypt_cases cfg s).elim And.right fun hkeyed => absurd hkeyed.1 h

theorem encrypt_of_key (cfg : Config) {s : State} (h : s.kmask = 0xFF#8) :
    encrypt cfg s = { s with ct := cfg.enc s.key s.salt s.plaintext, vfy := false, err := .ok } :=
  (encrypt_cases cfg s).elim (fun hmissing => absurd h hmissing.1) And.right

/-- Settles O26: the refusal, and with both flags the two answers of `Dec`. -/
theorem decryptResult : Obligations.DecryptResult := by
  refine ⟨decode_encode .decrypt, fun s => ⟨fun hmissing => ?_, fun hvfy hkey => ?_⟩⟩
  · exact congrArg _ (decrypt_of_missing_flag csbConfig hmissing)
  · cases hdec : csbConfig.dec s.key s.salt s.ct with
    | none => exact congrArg _ (decrypt_of_reject hvfy hkey hdec)
    | some p => exact congrArg _ (decrypt_of_plaintext hvfy hkey hdec)

/-- Settles O27: the refusal and the encryption of the plaintext view `BDAY ++ ENT` (R33). -/
theorem encryptResult : Obligations.EncryptResult :=
  ⟨decode_encode .encrypt, fun _ =>
    ⟨fun hmissing => congrArg _ (encrypt_of_no_key csbConfig hmissing),
      fun hkey => congrArg _ (encrypt_of_key csbConfig hkey)⟩⟩

/-- Settles O46: the arm of `AuthFail`, in any configuration. -/
theorem authFailDeliversNothing : Obligations.AuthFailDeliversNothing :=
  fun _ _ hvfy hkey hdec => decrypt_of_reject hvfy hkey hdec

/-- Under law 2 the arm of `AuthFail` is not reached: `Dec` has an answer (R108). -/
theorem decrypt_err_ne_authfail {cfg : Config} (hlaw : cfg.RoundTrips) (s : State) :
    (decrypt cfg s).err ≠ .authfail := by
  rcases decrypt_cases cfg s with ⟨_, e⟩ | ⟨_, _, hnone, _⟩ | ⟨_, _, _, _, e⟩
  · simp [e]
  · obtain ⟨p, hdec, _⟩ := dec_answers hlaw s.key s.salt s.ct
    simp [hdec] at hnone
  · simp [e]

/-- Settles O45: the consequences (a), (b), (c) of R108, and what they say of `DECRYPT`. -/
theorem lawfulCipherNeverRejects : Obligations.LawfulCipherNeverRejects :=
  fun _ hlaw => ⟨enc_bijective hlaw, dec_answers hlaw, decrypt_err_ne_authfail hlaw⟩

/-! ### What `SEAL` packed, `OPEN` and `DECRYPT` give back (S1) -/

/-- The ciphertext that `SEAL` makes of the plaintext in the registers (R162). -/
def sealedCt (cfg : Config) (s : State) : Text := cfg.enc s.key s.salt s.plaintext

/-- The record that `SEAL` packs (R162). -/
def sealedRecord (cfg : Config) (s : State) : Record :=
  s.ver ++ sealedCt cfg s ++ s.salt ++ cfg.ck (s.ver ++ sealedCt cfg s ++ s.salt)

/-- The indices that `SEAL` leaves are the groups of its record (R144, R162). -/
theorem sealRecord_idx (cfg : Config) {s : State} (hkey : s.kmask = 0xFF#8) :
    (sealRecord cfg s).idx = splitRecord (sealedRecord cfg s) := by
  rw [sealRecord_of_key cfg hkey, encrypt_of_key cfg hkey]
  rfl

/-- Loading a record that was put together from its fields puts these fields into the registers (R75, R143). -/
theorem loadRecord_append (t : State) (v : Version) (c : Text) (n : Salt) (k : Checksum) :
    t.loadRecord (v ++ c ++ n ++ k : Record) = { t.writeSalt n with ver := v, ct := c, ck := k } := by
  simp only [State.loadRecord, recVer_append, recCt_append, recSalt_append, recCk_append]

/-- `UNPACK` of a full, valid buffer that holds the groups of a record loads that record (R143, R145). -/
theorem unpack_of_splitRecord {t : State} {r : Record} (hidx : t.idx = splitRecord r) (hwcnt : t.wcnt = 24#5)
    (hbadv : t.badv = false) : unpack t = (t.loadRecord r).setErr .ok := by
  rcases unpack_cases t with ⟨hcount, _⟩ | ⟨_, hbad, _⟩ | ⟨_, _, e⟩
  · exact absurd hwcnt hcount
  · simp [hbadv] at hbad
  · rwa [hidx, joinIndices_splitRecord] at e

theorem verify_of_valid {cfg : Config} {t : State} (hver : t.ver ∈ cfg.vset) (hck : cfg.ck t.body = t.ck) :
    verify cfg t = t.setVfy.setErr .ok := by
  rcases verify_cases cfg t with ⟨hbad, _⟩ | ⟨_, hmis, _⟩ | ⟨_, _, e⟩
  · exact absurd hver hbad
  · exact absurd hck hmis
  · exact e

/-- The state in which `OPEN` leaves a CSB `t` whose buffer holds the record that was sealed in `s` (R161): the record
is in the registers and verified, and its salt has dropped the key. -/
def openedFrom (cfg : Config) (s t : State) : State :=
  { t.writeSalt s.salt with
    ver := s.ver
    ct := sealedCt cfg s
    ck := cfg.ck (s.ver ++ sealedCt cfg s ++ s.salt)
    vfy := true
    err := .ok }

/-- A sealed record of a supported version is opened: `SEAL` made the checksum that `VERIFY` looks for. -/
theorem openRecord_of_sealed {cfg : Config} {s t : State} (hver : s.ver ∈ cfg.vset)
    (hidx : t.idx = splitRecord (sealedRecord cfg s)) (hwcnt : t.wcnt = 24#5) (hbadv : t.badv = false) :
    openRecord cfg t = openedFrom cfg s t := by
  have hunpack := unpack_of_splitRecord hidx hwcnt hbadv
  rw [sealedRecord, loadRecord_append] at hunpack
  rw [openRecord_of_ok cfg (by rw [hunpack]; rfl), hunpack]
  exact verify_of_valid hver rfl

/-- With the key of the sealing loaded again, law 2 gives `DECRYPT` the plaintext of the sealing (R107, R111). -/
theorem decrypt_openedFrom {cfg : Config} (hlaw : cfg.RoundTrips) (s t : State) :
    decrypt cfg { openedFrom cfg s t with key := s.key, kmask := 0xFF#8 } =
      ({ openedFrom cfg s t with key := s.key, kmask := 0xFF#8 }.deliver s.plaintext).setErr .ok :=
  decrypt_of_plaintext rfl rfl (hlaw s.key s.salt s.plaintext)

/-- Settles O39: `OPEN` puts the sealed record back and verifies it, and `DECRYPT` gives its plaintext. -/
theorem sealOpenDecryptRoundTrip : Obligations.SealOpenDecryptRoundTrip := by
  intro s hkey hver
  refine ⟨_, exec_eq_afterCommand .sealRecord s, fun t hidx hwcnt hbadv => ?_⟩
  have hvset : s.ver ∈ csbConfig.vset := by simp [csbConfig, hver]
  have hopen := openRecord_of_sealed hvset (hidx.trans (sealRecord_idx csbConfig hkey)) hwcnt hbadv
  have hdecrypt := decrypt_openedFrom machineCipherRoundTrips s t
  exact ⟨openedFrom csbConfig s t, congrArg Host.Outcome.next hopen, rfl, rfl, rfl, _,
    congrArg Host.Outcome.next hdecrypt, rfl, rfl, rfl, ptBday_append s.bday s.ent, ptEnt_append s.bday s.ent⟩

end Sys2Proof.Proofs
end

section
/-! PROOFS. `41_seed_codec_checksum.md`: the commands `CKGEN` and `VERIFY` (R123 to R126), and what a failed decode and
a wrong key leave (R129, R130). -/

open Sys2Proof Sys2Proof.Machine

namespace Sys2Proof.Proofs

/-! ### `CKGEN` and `VERIFY` -/

/-- Settles O25: the checksum is that of the body view (R79), and `OK` gives no plaintext up. -/
theorem ckgenResult : Obligations.CkgenResult := ⟨decode_encode .ckgen, fun _ => rfl⟩

/-- The supported set of this hardware (R126). -/
theorem mem_csbConfig_vset (v : Version) : v ∈ csbConfig.vset ↔ v = 0x00#8 := List.mem_singleton

theorem verify_of_bad_version {cfg : Config} {s : State} (hver : s.ver ∉ cfg.vset) :
    verify cfg s = s.clearVfy.dropPlaintext.setErr .badver := by
  rcases verify_cases cfg s with ⟨_, e⟩ | ⟨hin, _⟩ | ⟨hin, _⟩
  · exact e
  · exact absurd hin hver
  · exact absurd hin hver

theorem verify_of_mismatch {cfg : Config} {s : State} (hver : s.ver ∈ cfg.vset) (hck : cfg.ck s.body ≠ s.ck) :
    verify cfg s = s.clearVfy.dropPlaintext.setErr .ckmis := by
  rcases verify_cases cfg s with ⟨hbad, _⟩ | ⟨_, _, e⟩ | ⟨_, heq, _⟩
  · exact absurd hver hbad
  · exact e
  · exact absurd heq hck

/-- Settles O24: the three outcomes in the order of R125. -/
theorem verifyResult : Obligations.VerifyResult := by
  refine ⟨decode_encode .verify, fun s => ⟨fun hver => ?_, fun hver hck => ?_, fun hver hck => ?_⟩⟩
  · exact congrArg _ (verify_of_bad_version (mt (mem_csbConfig_vset s.ver).1 hver))
  · exact congrArg _ (verify_of_mismatch ((mem_csbConfig_vset s.ver).2 hver) hck)
  · exact congrArg _ (verify_of_valid ((mem_csbConfig_vset s.ver).2 hver) hck)

/-! ### A decode that fails delivers nothing (R129) -/

/-- No plaintext stands in the registers, and the record is marked verified after `AUTHFAIL` alone. -/
def DeliversNothing (t : State) : Prop :=
  t.bday = 0#16 ∧ t.ent = 0#128 ∧ t.ptv = false ∧ t.vfy = decide (t.err = .authfail)

theorem unpack_failure_deliversNothing {s : State} (h : (unpack s).err ∈ decodeFailures) :
    DeliversNothing (unpack s) := by
  rcases unpack_cases s with ⟨_, e⟩ | ⟨_, _, e⟩ | ⟨_, _, e⟩ <;> rw [e] at h ⊢
  · exact ⟨rfl, rfl, rfl, rfl⟩
  · exact ⟨rfl, rfl, rfl, rfl⟩
  · simp [decodeFailures] at h

theorem verify_failure_deliversNothing {cfg : Config} {s : State} (h : (verify cfg s).err ∈ decodeFailures) :
    DeliversNothing (verify cfg s) := by
  rcases verify_cases cfg s with ⟨_, e⟩ | ⟨_, _, e⟩ | ⟨_, _, e⟩ <;> rw [e] at h ⊢
  · exact ⟨rfl, rfl, rfl, rfl⟩
  · exact ⟨rfl, rfl, rfl, rfl⟩
  · simp [decodeFailures] at h

theorem openRecord_failure_deliversNothing {cfg : Config} {s : State}
    (h : (openRecord cfg s).err ∈ decodeFailures) : DeliversNothing (openRecord cfg s) := by
  by_cases hok : (unpack s).err = .ok
  · rw [openRecord_of_ok cfg hok] at h ⊢
    exact verify_failure_deliversNothing h
  · rw [openRecord_of_error cfg hok] at h ⊢
    exact unpack_failure_deliversNothing h

theorem decrypt_failure_deliversNothing {cfg : Config} {s : State} (h : (decrypt cfg s).err ∈ decodeFailures) :
    DeliversNothing (decrypt cfg s) := by
  rcases decrypt_cases cfg s with ⟨_, e⟩ | ⟨hvfy, _, _, e⟩ | ⟨_, _, _, _, e⟩ <;> rw [e] at h ⊢
  · simp [decodeFailures] at h
  · exact ⟨rfl, rfl, rfl, hvfy⟩
  · simp [decodeFailures] at h

/-- Settles O34: each command of the decode path by its cases. -/
theorem noPartialDecode : Obligations.NoPartialDecode := by
  intro i s t hpath hexec hfail
  cases (exec_eq_afterCommand i s).symm.trans hexec
  simp only [decodePath, List.mem_cons, List.not_mem_nil, or_false] at hpath
  rcases hpath with rfl | rfl | rfl | rfl
  · exact unpack_failure_deliversNothing hfail
  · exact verify_failure_deliversNothing hfail
  · exact openRecord_failure_deliversNothing hfail
  · exact decrypt_failure_deliversNothing hfail

/-! ### A wrong key is not detected (R130) -/

/-- `VERIFY` neither looks at the key nor changes it (R120). -/
theorem verify_with_key (cfg : Config) (s : State) (k : Key) :
    verify cfg { s with key := k } = { verify cfg s with key := k } := by
  rcases verify_cases cfg s with ⟨hver, e⟩ | ⟨hver, hck, e⟩ | ⟨hver, hck, e⟩ <;> rw [e]
  · exact verify_of_bad_version hver
  · exact verify_of_mismatch hver hck
  · exact verify_of_valid hver hck

/-- Settles O47: the machine's `Dec` answers under every key (log entry 5), and `VERIFY` does not depend on it. -/
theorem wrongKeyIsNotDetected : Obligations.WrongKeyIsNotDetected := by
  refine fun s k => ⟨fun hvfy hkey => ?_, _, rfl, congrArg _ (verify_with_key csbConfig s k)⟩
  obtain ⟨p, hdec, _⟩ := dec_answers machineCipherRoundTrips k s.salt s.ct
  have hdecrypt := decrypt_of_plaintext (s := { s with key := k }) hvfy hkey hdec
  exact ⟨_, congrArg Host.Outcome.next hdecrypt, rfl, rfl⟩

end Sys2Proof.Proofs
end

section
/-! PROOFS. `41_seed_codec_checksum.md`: the checksum (R121), and which changes of a record it cannot miss (R131). -/

open Sys2Proof Sys2Proof.Machine

namespace Sys2Proof.Proofs

/-! ### The CRC, a byte at a time (R121) -/

theorem crcBits_eq_iterate (n : Nat) (c : Word) : crcBits n c = crcBit^[n] c := by
  induction n generalizing c with
  | zero => rfl
  | succ n ih => rw [crcBits_succ, ih, Function.iterate_succ_apply]

theorem crc32c_append_byte (bs : List Byte) (b : Byte) :
    crc32c (bs ++ [b]) ^^^ 0xFFFFFFFF#32 = crcByte (crc32c bs ^^^ 0xFFFFFFFF#32) b := by
  simp [crc32c]

/-- The bytes of `BODY` as slices, byte 0 at its top (R11, R79). -/
theorem bodyBytes_eq_slices (b : Body) :
    bodyBytes b = (List.range 29).map fun k => b.extractLsb' (224 - 8 * k) 8 := by
  have hslice (k : Nat) : byteOf 29 b k = b.extractLsb' (224 - 8 * k) 8 := by
    rw [byteOf, Nat.mul_sub]
  exact List.map_congr_left fun k _ => hslice k

/-- Settles O40: the definition of R121 turn by turn, and its check values by running it. -/
theorem checksumCheckValues : Obligations.ChecksumCheckValues := by
  refine ⟨fun bs b => ?byte, rfl, by decide +kernel, by decide +kernel, by decide +kernel, fun b => ?body⟩
  case byte => exact (crc32c_append_byte bs b).trans (crcBits_eq_iterate 8 _)
  case body => rw [csbConfig_ck, checksum_eq_crc32c, bodyBytes_eq_slices]

/-! ### The CRC is affine over GF(2) (R131) -/

/-- The polynomial comes in exactly when the bit shifted out is 1 (R121). -/
theorem crcBit_eq (c : Word) : crcBit c = c >>> 1 ^^^ if c.getLsbD 0 = true then 0x82F63B78#32 else 0#32 := by
  unfold crcBit
  split
  · rfl
  · exact BitVec.xor_zero.symm

theorem crcBit_xor (c c' : Word) : crcBit (c ^^^ c') = crcBit c ^^^ crcBit c' := by
  have hpoly (x y : Bool) (p : Word) : (if (x ^^ y) = true then p else 0#32) =
      (if x = true then p else 0#32) ^^^ (if y = true then p else 0#32) := by
    cases x <;> cases y <;> simp
  rw [crcBit_eq, crcBit_eq, crcBit_eq, BitVec.ushiftRight_xor_distrib, BitVec.getLsbD_xor, hpoly]
  ac_rfl

theorem crcBits_xor (n : Nat) (c c' : Word) : crcBits n (c ^^^ c') = crcBits n c ^^^ crcBits n c' := by
  induction n generalizing c c' with
  | zero => rfl
  | succ n ih => rw [crcBits_succ, crcBit_xor, ih, crcBits_succ, crcBits_succ]

theorem crcByte_xor (c c' : Word) (b b' : Byte) :
    crcByte (c ^^^ c') (b ^^^ b') = crcByte c b ^^^ crcByte c' b' := by
  rw [crcByte, crcByte, crcByte, ← crcBits_xor, BitVec.setWidth_xor]
  congr 1
  ac_rfl

/-- The bytes that `f` and `g` give at the places `ks`, taken together. -/
theorem foldl_crcByte_xor (ks : List Nat) (f g : Nat → Byte) (c c' : Word) :
    (ks.map fun k => f k ^^^ g k).foldl crcByte (c ^^^ c') =
      (ks.map f).foldl crcByte c ^^^ (ks.map g).foldl crcByte c' := by
  induction ks generalizing c c' with
  | nil => rfl
  | cons k ks ih => simp only [List.map_cons, List.foldl_cons, crcByte_xor, ih]

/-- What a change `d` of the body does to the checksum: the CRC of `d` without the initial value and the final
complement. -/
def checksumDiff (d : Body) : Checksum := (bodyBytes d).foldl crcByte 0#32

theorem checksum_xor (a d : Body) : checksum (a ^^^ d) = checksum a ^^^ checksumDiff d := by
  have hbytes : bodyBytes (a ^^^ d) = (List.range 29).map fun k => byteOf 29 a k ^^^ byteOf 29 d k :=
    List.map_congr_left fun k _ => BitVec.extractLsb'_xor
  have hfold := foldl_crcByte_xor (List.range 29) (byteOf 29 a) (byteOf 29 d) 0xFFFFFFFF#32 0#32
  rw [BitVec.xor_zero] at hfold
  rw [checksum_eq_crc32c, checksum_eq_crc32c, crc32c, crc32c, hbytes, hfold, BitVec.xor_assoc, BitVec.xor_assoc,
    BitVec.xor_comm 0xFFFFFFFF#32]
  rfl

/-- Settles O41: a change to `a` and the same change to `b` do the same to the checksum. -/
theorem checksumIsAffine : Obligations.ChecksumIsAffine := by
  intro a b c
  have hc : checksum c = checksum b ^^^ checksumDiff (b ^^^ c) := by
    rw [← checksum_xor, ← BitVec.xor_assoc, BitVec.xor_self, BitVec.zero_xor]
  calc checksum (a ^^^ b ^^^ c)
      = checksum a ^^^ checksumDiff (b ^^^ c) := by rw [BitVec.xor_assoc, checksum_xor]
    _ = checksum a ^^^ checksum b ^^^ checksum c := by
        rw [hc, BitVec.xor_assoc, ← BitVec.xor_assoc (checksum b), BitVec.xor_self, BitVec.zero_xor]

/-! ### A change confined to four bytes changes the CRC -/

/-- A turn that leaves bit 31 at 0 did not bring the polynomial in, so it only halved the register. -/
theorem eq_double_crcBit {c : Word} (h : (crcBit c).toNat < 2 ^ 31) : c.toNat = 2 * (crcBit c).toNat := by
  cases hbit : c.getLsbD 0
  · have heven : c.toNat % 2 = 0 := by simpa [BitVec.getLsbD, Nat.testBit_zero] using hbit
    have hhalf : crcBit c = c >>> 1 := by rw [crcBit_eq, hbit]; exact BitVec.xor_zero
    rw [hhalf, BitVec.toNat_ushiftRight]
    omega
  · have htop : (crcBit c).getLsbD 31 = true := by rw [crcBit_eq, hbit]; simp
    rw [BitVec.getLsbD, Nat.testBit_lt_two_pow h] at htop
    exact absurd htop (by simp)

theorem eq_shift_crcBits {n : Nat} (hn : n ≤ 32) {c : Word} (h : (crcBits n c).toNat < 2 ^ (32 - n)) :
    c.toNat = 2 ^ n * (crcBits n c).toNat := by
  induction n generalizing c with
  | zero => simp [crcBits_zero]
  | succ n ih =>
    rw [crcBits_succ] at h ⊢
    have hstep := ih (by omega) (h.trans_le (Nat.pow_le_pow_right (by omega) (by omega)))
    have hlt : (crcBit c).toNat < 2 ^ 31 := by
      calc (crcBit c).toNat = 2 ^ n * (crcBits n (crcBit c)).toNat := hstep
        _ < 2 ^ n * 2 ^ (32 - (n + 1)) := Nat.mul_lt_mul_of_pos_left h (by positivity)
        _ = 2 ^ 31 := by rw [← pow_add]; congr 1; omega
    rw [eq_double_crcBit hlt, hstep, pow_succ]
    ring

/-- The number that a byte string spells with byte 0 the least significant. -/
def littleEndian (bs : List Byte) : Nat := Nat.ofDigits 256 (bs.map BitVec.toNat)

theorem littleEndian_cons (b : Byte) (bs : List Byte) :
    littleEndian (b :: bs) = b.toNat + 256 * littleEndian bs := by
  simp [littleEndian, Nat.ofDigits_cons]

theorem littleEndian_lt (bs : List Byte) : littleEndian bs < 256 ^ bs.length := by
  have hdigit : ∀ x ∈ bs.map BitVec.toNat, x < 256 := by
    intro x hx
    obtain ⟨b, _, rfl⟩ := List.mem_map.1 hx
    exact b.isLt
  simpa [littleEndian] using Nat.ofDigits_lt_base_pow_length (by decide) hdigit

theorem eq_zero_of_littleEndian_eq_zero {bs : List Byte} (h : littleEndian bs = 0) : ∀ b ∈ bs, b = 0#8 := by
  induction bs with
  | nil => simp
  | cons b bs ih =>
    rw [littleEndian_cons] at h
    simpa using ⟨BitVec.eq_of_toNat_eq (by simp; omega), ih (by omega)⟩

/-- A register that a byte cleared in its low 8 bits held that byte there. -/
theorem toNat_of_xor_byte {c : Word} {b : Byte} {m : Nat} (h : (c ^^^ b.setWidth 32).toNat = 2 ^ 8 * m) :
    c.toNat = b.toNat + 256 * m := by
  have hb : b.toNat < 2 ^ 8 := b.isLt
  have hxor : c.toNat ^^^ b.toNat = 2 ^ 8 * m := by
    rwa [BitVec.toNat_xor, BitVec.toNat_setWidth_of_le (by decide)] at h
  have hlow : c.toNat % 2 ^ 8 = b.toNat := by
    have hmod := congrArg (· % 2 ^ 8) hxor
    rwa [Nat.xor_mod_two_pow, Nat.mod_eq_of_lt hb, Nat.mul_mod_right, Nat.xor_eq_zero_iff] at hmod
  have hhigh : c.toNat / 2 ^ 8 = m := by
    have hdiv := congrArg (· / 2 ^ 8) hxor
    rwa [Nat.xor_div_two_pow, Nat.div_eq_of_lt hb, Nat.xor_zero, Nat.mul_div_cancel_left m (by decide)] at hdiv
  omega

/-- At most four bytes bring the register to 0 only when it held them: the last turns shift a small number out, so
that none of them brought the polynomial in. -/
theorem eq_littleEndian_of_foldl_crcByte {bs : List Byte} (hlen : bs.length ≤ 4) {c : Word}
    (h : bs.foldl crcByte c = 0#32) : c.toNat = littleEndian bs := by
  induction bs generalizing c with
  | nil => simpa [littleEndian] using congrArg BitVec.toNat h
  | cons b bs ih =>
    rw [List.length_cons] at hlen
    have hrest : (crcByte c b).toNat = littleEndian bs := ih (by omega) h
    have hsmall : (crcByte c b).toNat < 2 ^ (32 - 8) := by
      calc (crcByte c b).toNat = littleEndian bs := hrest
        _ < 256 ^ bs.length := littleEndian_lt bs
        _ ≤ 256 ^ 3 := Nat.pow_le_pow_right (by decide) (by omega)
    have hshift : (c ^^^ b.setWidth 32).toNat = 2 ^ 8 * littleEndian bs := by
      rw [eq_shift_crcBits (by decide) hsmall]
      exact congrArg _ hrest
    rw [littleEndian_cons]
    exact toNat_of_xor_byte hshift

theorem crcByte_zero : crcByte 0#32 0#8 = 0#32 := by decide

theorem foldl_crcByte_zeros (n : Nat) : (List.replicate n 0#8).foldl crcByte 0#32 = 0#32 := by
  induction n with
  | zero => rfl
  | succ n ih => rwa [List.replicate_succ, List.foldl_cons, crcByte_zero]

/-- Zero bytes keep a register that is not 0 from becoming 0. -/
theorem eq_zero_of_foldl_zeros {n : Nat} {c : Word} (h : (List.replicate n 0#8).foldl crcByte c = 0#32) :
    c = 0#32 := by
  induction n generalizing c with
  | zero => exact h
  | succ n ih =>
    have hbyte : [0#8].foldl crcByte c = 0#32 := ih h
    exact BitVec.eq_of_toNat_eq (eq_littleEndian_of_foldl_crcByte (by simp) hbyte)

/-- A 32-bit CRC sees every change of at most four bytes in a row. -/
theorem eq_zero_of_crc_burst {a z : Nat} {w : List Byte} (hlen : w.length ≤ 4)
    (h : (List.replicate a 0#8 ++ w ++ List.replicate z 0#8).foldl crcByte 0#32 = 0#32) : ∀ b ∈ w, b = 0#8 := by
  rw [List.foldl_append, List.foldl_append, foldl_crcByte_zeros] at h
  exact eq_zero_of_littleEndian_eq_zero (eq_littleEndian_of_foldl_crcByte hlen (eq_zero_of_foldl_zeros h)).symm

/-! ### Where a change has its bits -/

/-- The bits of `d` that are set stand at `lo` to `hi - 1`. -/
def SetWithin {n : Nat} (d : BitVec n) (lo hi : Nat) : Prop := ∀ b, d.getLsbD b = true → lo ≤ b ∧ b < hi

theorem SetWithin.extractLsb' {n : Nat} {d : BitVec n} {lo hi : Nat} (h : SetWithin d lo hi) (start len : Nat) :
    SetWithin (d.extractLsb' start len) (lo - start) (hi - start) := by
  intro b hb
  simp only [BitVec.getLsbD_extractLsb', Bool.and_eq_true] at hb
  have := h _ hb.2
  omega

theorem SetWithin.eq_zero {n : Nat} {d : BitVec n} {lo hi : Nat} (h : SetWithin d lo hi) (hout : hi ≤ lo ∨ n ≤ lo) :
    d = 0#n := by
  refine BitVec.eq_of_getLsbD_eq fun b hb => ?_
  rw [BitVec.getLsbD_zero, ← Bool.not_eq_true]
  intro hset
  have := h b hset
  omega

theorem SetWithin.toNat_lt {n : Nat} {d : BitVec n} {lo hi : Nat} (h : SetWithin d lo hi) : d.toNat < 2 ^ hi := by
  refine Nat.lt_pow_two_of_testBit _ fun b hb => ?_
  rw [BitVec.testBit_toNat, ← Bool.not_eq_true]
  intro hset
  have := h b hset
  omega

theorem SetWithin.low_zero {n : Nat} {d : BitVec n} {lo hi len : Nat} (h : SetWithin d lo hi) (hlen : len ≤ lo) :
    d.extractLsb' 0 len = 0#len :=
  (h.extractLsb' 0 len).eq_zero (.inr hlen)

/-! ### A change confined to 25 bits of the body -/

theorem SetWithin.byteOf {d : Body} {lo hi : Nat} (h : SetWithin d lo hi) (k : Nat) :
    SetWithin (byteOf 29 d k) (lo - 8 * (28 - k)) (hi - 8 * (28 - k)) :=
  h.extractLsb' (8 * (28 - k)) 8

/-- The bytes of a body that is zero outside its `m` bytes from byte `a` on. -/
theorem bodyBytes_of_window {d : Body} {a m : Nat} (ham : a + m ≤ 29)
    (hout : ∀ k < 29, k < a ∨ a + m ≤ k → byteOf 29 d k = 0#8) :
    bodyBytes d = List.replicate a 0#8 ++ (List.range m).map (fun j => byteOf 29 d (a + j)) ++
      List.replicate (29 - (a + m)) 0#8 := by
  have hsplit : 29 = a + m + (29 - (a + m)) := by omega
  have hbefore : (List.range a).map (byteOf 29 d) = List.replicate a 0#8 :=
    List.eq_replicate_iff.2 ⟨by simp, by
      simp only [List.forall_mem_map, List.mem_range]
      exact fun k hk => hout k (by omega) (.inl hk)⟩
  have hafter : ((List.range (29 - (a + m))).map fun j => byteOf 29 d (a + m + j)) =
      List.replicate (29 - (a + m)) 0#8 :=
    List.eq_replicate_iff.2 ⟨by simp, by
      simp only [List.forall_mem_map, List.mem_range]
      exact fun j hj => hout (a + m + j) (by omega) (.inr (by omega))⟩
  calc bodyBytes d
      = (List.range (a + m + (29 - (a + m)))).map (byteOf 29 d) := by rw [← hsplit]; rfl
    _ = _ := by
        rw [List.range_add, List.range_add, List.map_append, List.map_append, List.map_map, List.map_map, hbefore]
        exact congrArg _ hafter

theorem body_eq_zero_of_bytes {d : Body} (h : ∀ k < 29, byteOf 29 d k = 0#8) : d = 0#232 := by
  refine BitVec.eq_of_getLsbD_eq fun b hb => ?_
  have hbit := congrArg (·.getLsbD (b % 8)) (h (28 - b / 8) (by omega))
  have hplace : 8 * (29 - 1 - (28 - b / 8)) + b % 8 = b := by omega
  simpa [byteOf, BitVec.getLsbD_extractLsb', hplace, Nat.mod_lt] using hbit

/-- A change of at most 25 bits in a row stands in four bytes, so the checksum shows it. -/
theorem eq_zero_of_checksumDiff_eq_zero {d : Body} {lo hi : Nat} (h : SetWithin d lo hi) (hlen : hi ≤ lo + 25)
    (hdiff : checksumDiff d = 0#32) : d = 0#232 := by
  have hout (k : Nat) (hk : k < 29) (houtside : k < 25 - lo / 8 ∨ 25 - lo / 8 + 4 ≤ k) : byteOf 29 d k = 0#8 :=
    (h.byteOf k).eq_zero (by omega)
  rw [checksumDiff, bodyBytes_of_window (by omega) hout] at hdiff
  have hinside := eq_zero_of_crc_burst (by simp) hdiff
  simp only [List.forall_mem_map, List.mem_range] at hinside
  refine body_eq_zero_of_bytes fun k hk => ?_
  by_cases hwindow : 25 - lo / 8 ≤ k ∧ k < 25 - lo / 8 + 4
  · simpa [Nat.add_sub_cancel' hwindow.1] using hinside (k - (25 - lo / 8)) (by omega)
  · exact hout k hk (by omega)

/-! ### The two pairs of words that lie across the border of body and checksum

Words 20 and 21 hold the 12 low bits of the body and the 10 high bits of the checksum; words 21 and 22 hold bit 0 of the
body and the 21 high bits of the checksum. Here the checksum stands in the order of R122 and not in that of the CRC, so
that the argument for bursts says nothing; the rest of the checksum is what shows the change (R131, by computation). -/

theorem checksumDiff_of_last_bytes {d : Body} {hi : Nat} (h : SetWithin d 0 hi) (hhi : hi ≤ 16) :
    checksumDiff d = crcByte (crcByte 0#32 (byteOf 29 d 27)) (byteOf 29 d 28) := by
  have hout (k : Nat) (hk : k < 29) (houtside : k < 27 ∨ 27 + 2 ≤ k) : byteOf 29 d k = 0#8 :=
    (h.byteOf k).eq_zero (by omega)
  rw [checksumDiff, bodyBytes_of_window (by decide) hout, List.foldl_append, List.foldl_append, foldl_crcByte_zeros]
  rfl

/-- The low 22 bits of the CRC differ from 0 for each non-zero change of the last 12 bits of the body. -/
theorem crc_low22_of_last12 {x y : Byte} (hx : x.toNat < 16)
    (h : (crcByte (crcByte 0#32 x) y).extractLsb' 0 22 = 0#22) : crcByte (crcByte 0#32 x) y = 0#32 := by
  have hsum (x y : Byte) : crcByte (crcByte 0#32 x) y = crcByte (crcByte 0#32 x) 0#8 ^^^ crcByte 0#32 y := by
    rw [← crcByte_xor, BitVec.xor_zero, BitVec.zero_xor]
  have table : ∀ x : Byte, x.toNat < 16 → ∀ y : Byte,
      (crcByte (crcByte 0#32 x) 0#8 ^^^ crcByte 0#32 y).extractLsb' 0 22 = 0#22 →
        crcByte (crcByte 0#32 x) 0#8 ^^^ crcByte 0#32 y = 0#32 := by decide +kernel
  rw [hsum] at h ⊢
  exact table x hx y h

/-- The low 11 bits of the CRC differ from 0 when the last bit of the body is flipped. -/
theorem crc_low11_of_last_bit {y : Byte} (hy : y.toNat < 2)
    (h : (crcByte (crcByte 0#32 0#8) y).extractLsb' 0 11 = 0#11) : crcByte (crcByte 0#32 0#8) y = 0#32 := by
  have table : ∀ y : Byte, y.toNat < 2 → (crcByte (crcByte 0#32 0#8) y).extractLsb' 0 11 = 0#11 →
      crcByte (crcByte 0#32 0#8) y = 0#32 := by decide +kernel
  exact table y hy h

/-! ### Every change confined to two adjacent words is seen (R131) -/

/-- `REC[263:32]`, the body of the record (R75, R79). -/
def recBody (r : Record) : Body := r.extractLsb' 32 232

theorem SetWithin.recBody {e : Record} {lo hi : Nat} (h : SetWithin e lo hi) :
    SetWithin (recBody e) (lo - 32) (hi - 32) := h.extractLsb' 32 232

/-- The change `d` of the words `i` and `i + 1` of the record (R77). -/
def twoWordChange (i : Nat) (d : BitVec 22) : Record := d.setWidth 264 <<< (242 - 11 * i)

theorem getLsbD_twoWordChange {i : Nat} (hi : i < 23) (d : BitVec 22) (b : Nat) :
    (twoWordChange i d).getLsbD b = (decide (242 - 11 * i ≤ b) && d.getLsbD (b - (242 - 11 * i))) := by
  rw [twoWordChange, BitVec.getLsbD_shiftLeft, BitVec.getLsbD_setWidth]
  by_cases hb : b < 264
  · have hlt : b - (242 - 11 * i) < 264 := by omega
    by_cases hlow : 242 - 11 * i ≤ b
    · simp [hb, hlt, hlow]
    · simp [hb, hlow, Nat.lt_of_not_le hlow]
  · have hd : d.getLsbD (b - (242 - 11 * i)) = false := BitVec.getLsbD_of_ge _ _ (by omega)
    simp [hd]

theorem setWithin_twoWordChange {i : Nat} (hi : i < 23) (d : BitVec 22) :
    SetWithin (twoWordChange i d) (242 - 11 * i) (264 - 11 * i) := by
  intro b hb
  rw [getLsbD_twoWordChange hi, Bool.and_eq_true, decide_eq_true_iff] at hb
  have := BitVec.lt_of_getLsbD hb.2
  omega

theorem eq_zero_of_twoWordChange_eq_zero {i : Nat} (hi : i < 23) {d : BitVec 22} (h : twoWordChange i d = 0#264) :
    d = 0#22 := by
  refine BitVec.eq_of_getLsbD_eq fun b _ => ?_
  have hbit := congrArg (·.getLsbD (242 - 11 * i + b)) h
  simpa [getLsbD_twoWordChange hi] using hbit

/-- A change of two adjacent words that the checksum would not show leaves the CRC as it was. -/
theorem checksumDiff_eq_zero_of_unseen {i : Nat} (hi : i < 23) {d : BitVec 22}
    (h : checksumDiff (recBody (twoWordChange i d)) = recCk (twoWordChange i d)) :
    checksumDiff (recBody (twoWordChange i d)) = 0#32 := by
  have hwithin := setWithin_twoWordChange hi d
  have hbody := hwithin.recBody
  have hck : SetWithin (recCk (twoWordChange i d)) _ _ := hwithin.extractLsb' 0 32
  obtain hin | rfl | rfl | rfl : i ≤ 19 ∨ i = 20 ∨ i = 21 ∨ i = 22 := by omega
  · exact h.trans (hck.eq_zero (.inr (by omega)))
  · have hlow : (checksumDiff (recBody (twoWordChange 20 d))).extractLsb' 0 22 = 0#22 := h ▸ hck.low_zero (by decide)
    rw [checksumDiff_of_last_bytes hbody (by decide)] at hlow ⊢
    exact crc_low22_of_last12 (hbody.byteOf 27).toNat_lt hlow
  · have hlow : (checksumDiff (recBody (twoWordChange 21 d))).extractLsb' 0 11 = 0#11 := h ▸ hck.low_zero (by decide)
    rw [checksumDiff_of_last_bytes hbody (by decide), (hbody.byteOf 27).eq_zero (.inl (by decide))] at hlow ⊢
    exact crc_low11_of_last_bit (hbody.byteOf 28).toNat_lt hlow
  · rw [checksumDiff_of_last_bytes hbody (by decide), (hbody.byteOf 27).eq_zero (.inl (by decide)),
      (hbody.byteOf 28).eq_zero (.inl (by decide)), crcByte_zero, crcByte_zero]

theorem checksumDiff_ne_of_twoWordChange {i : Nat} (hi : i < 23) {d : BitVec 22} (hd : d ≠ 0#22) :
    checksumDiff (recBody (twoWordChange i d)) ≠ recCk (twoWordChange i d) := by
  intro hunseen
  have hdiff := checksumDiff_eq_zero_of_unseen hi hunseen
  have hbody := eq_zero_of_checksumDiff_eq_zero (setWithin_twoWordChange hi d).recBody (by omega) hdiff
  have hck : recCk (twoWordChange i d) = 0#32 := hunseen.symm.trans hdiff
  have hfields : (recBody (twoWordChange i d) ++ recCk (twoWordChange i d) : Record) = twoWordChange i d :=
    BitVec.extractLsb'_append_extractLsb'
  rw [hbody, hck, BitVec.zero_append_zero] at hfields
  exact hd (eq_zero_of_twoWordChange_eq_zero hi hfields.symm)

/-! ### What `VERIFY` says of a changed record -/

/-- The registers of the record rewritten with `r`, and nothing else, `VFY` included. -/
def withRecord (s : State) (r : Record) : State :=
  { s with ver := recVer r, ct := recCt r, salt := recSalt r, ck := recCk r }

theorem withRecord_body (s : State) (r : Record) : (withRecord s r).body = recBody r := by
  have hfields := congrArg recBody (record_of_fields r)
  rwa [recBody, BitVec.extractLsb'_append_eq_left] at hfields

/-- A change that changes the checksum and the checksum field differently is rejected, whatever its size. -/
theorem verify_rejects_change {s : State} {e : Record} (hck : checksum s.body = s.ck)
    (he : checksumDiff (recBody e) ≠ recCk e) :
    (verify csbConfig (withRecord s (s.record ^^^ e))).vfy = false ∧
    (verify csbConfig (withRecord s (s.record ^^^ e))).err =
      if recVer (s.record ^^^ e) = 0x00#8 then .ckmis else .badver := by
  have hbody : recBody (s.record ^^^ e) = s.body ^^^ recBody e := by
    rw [recBody, BitVec.extractLsb'_xor, State.record, BitVec.extractLsb'_append_eq_left]
    rfl
  have hfield : recCk (s.record ^^^ e) = s.ck ^^^ recCk e := by
    rw [recCk, BitVec.extractLsb'_xor, State.record, BitVec.extractLsb'_append_eq_right]
    rfl
  have hmis : checksum (withRecord s (s.record ^^^ e)).body ≠ recCk (s.record ^^^ e) := by
    rw [withRecord_body, hbody, hfield, checksum_xor, hck, ne_eq, BitVec.xor_right_inj]
    exact he
  by_cases hver : recVer (s.record ^^^ e) = 0x00#8
  · rw [verify_of_mismatch ((mem_csbConfig_vset _).2 hver) hmis, if_pos hver]
    exact ⟨rfl, rfl⟩
  · rw [verify_of_bad_version (mt (mem_csbConfig_vset _).1 hver), if_neg hver]
    exact ⟨rfl, rfl⟩

/-- Settles O43: the checksum field and the checksum do not change alike. -/
theorem adjacentWordChangeRejected : Obligations.AdjacentWordChangeRejected := by
  rintro s r i d _ hck hi hd rfl
  exact ⟨_, rfl, verify_rejects_change hck (checksumDiff_ne_of_twoWordChange hi hd)⟩

/-! ### The flip of one bit -/

theorem getLsbD_one_shiftLeft {n b : Nat} (hb : b < n) (j : Nat) : (1#n <<< b).getLsbD j = decide (j = b) := by
  have hn : 0 < n := by omega
  by_cases hj : j = b
  · simp [hj, hb]
  · by_cases hlt : j < b
    · simp [hj, hlt]
    · simp [hj, hn, show ¬ j - b = 0 by omega]

theorem one_shiftLeft_ne_zero {n b : Nat} (hb : b < n) : 1#n <<< b ≠ 0#n := by
  intro hzero
  simpa [getLsbD_one_shiftLeft hb] using congrArg (·.getLsbD b) hzero

/-- A bit of the record stands in one of its words, so its flip is a change of two adjacent words. -/
theorem bitFlip_eq_twoWordChange {b : Nat} (hb : b < 264) :
    ∃ i < 23, ∃ d : BitVec 22, d ≠ 0#22 ∧ 1#264 <<< b = twoWordChange i d := by
  obtain ⟨i, hi, hlow, hhigh⟩ : ∃ i < 23, 242 - 11 * i ≤ b ∧ b < 264 - 11 * i :=
    ⟨22 - (b / 11 - 1), by omega, by omega, by omega⟩
  have hd : b - (242 - 11 * i) < 22 := by omega
  refine ⟨i, hi, 1#22 <<< (b - (242 - 11 * i)), one_shiftLeft_ne_zero hd, BitVec.eq_of_getLsbD_eq fun j _ => ?_⟩
  rw [getLsbD_one_shiftLeft hb, getLsbD_twoWordChange hi, getLsbD_one_shiftLeft hd, ← Bool.decide_and,
    decide_eq_decide]
  omega

theorem recVer_bitFlip_eq_zero_iff {b : Nat} (hb : b < 264) : recVer (1#264 <<< b) = 0x00#8 ↔ b < 256 := by
  have hbits (j : Nat) : (recVer (1#264 <<< b)).getLsbD j = (decide (j < 8) && decide (256 + j = b)) := by
    rw [recVer, BitVec.getLsbD_extractLsb', getLsbD_one_shiftLeft hb]
  constructor
  · intro hzero
    by_contra hge
    have hbit := hbits (b - 256)
    rw [hzero] at hbit
    simp at hbit
    omega
  · intro hlt
    refine BitVec.eq_of_getLsbD_eq fun j _ => ?_
    simp [hbits]
    omega

/-- Settles O42: a flip is a change of two adjacent words, and it changes the version exactly when its bit is one of
`VER`. -/
theorem singleBitFlipRejected : Obligations.SingleBitFlipRejected := by
  rintro s r b hver hck hb rfl
  obtain ⟨i, hi, d, hd, hflip⟩ := bitFlip_eq_twoWordChange hb
  have hrejected := verify_rejects_change hck (checksumDiff_ne_of_twoWordChange hi hd)
  rw [← hflip] at hrejected
  have hversion : recVer (s.record ^^^ 1#264 <<< b) = 0x00#8 ↔ b < 256 := by
    have hfields : recVer (s.record ^^^ 1#264 <<< b) = s.ver ^^^ recVer (1#264 <<< b) := by
      rw [recVer, BitVec.extractLsb'_xor]
      exact congrArg (· ^^^ _) (recVer_append s.ver s.ct s.salt s.ck)
    rw [hfields, hver, BitVec.zero_xor, recVer_bitFlip_eq_zero_iff hb]
  simp only [hversion] at hrejected
  exact ⟨_, rfl, hrejected⟩

end Sys2Proof.Proofs
end

section
/-! PROOFS. `42_bitpack.md`: the push (R141), the commands `CLRW`, `UNPACK` and `PACK` (R142 to R144), and the two round
trips of R145. -/

open Sys2Proof Sys2Proof.Machine

namespace Sys2Proof.Proofs

/-! ### The push -/

/-- A value that is an index is stored as it is (R141). -/
theorem push_of_valid {v : Word} {s : State} (hroom : s.wcnt.toNat < 24) (hv : v.toNat < 2048) :
    push v s = { s with idx := s.idx.setIfInBounds s.wcnt.toNat (v.setWidth 11), wcnt := s.wcnt + 1#5 } := by
  rw [push_of_room v hroom, pushedIndex_of_lt hv]
  simp [Nat.not_le.mpr hv]

/-- A value that is no index stores 0, and only the first one sets `BADPOS` (R141). -/
theorem push_of_invalid {v : Word} {s : State} (hroom : s.wcnt.toNat < 24) (hv : 2048 ≤ v.toNat) :
    push v s =
      { s with
        idx := s.idx.setIfInBounds s.wcnt.toNat 0#11
        wcnt := s.wcnt + 1#5
        badv := true
        badpos := if s.badv then s.badpos else s.wcnt } := by
  rw [push_of_room v hroom, pushedIndex_of_ge hv]
  cases hbadv : s.badv <;> simp [hv]

/-- A push neither reads nor changes the host's side of the bus. -/
theorem push_with_host_side (v : Word) (s : State) (rest : List HostEvent) (y : Option Reply) :
    push v { s with script := rest, reply := y } = { push v s with script := rest, reply := y } := by
  rcases Nat.lt_or_ge s.wcnt.toNat 24 with hroom | hfull
  · rw [push_of_room v hroom]
    exact push_of_room v hroom
  · rw [push_of_full v hfull]
    exact push_of_full v hfull

/-- A 32-bit write to `WPUSH` is a push, answered `OKAY` (R54, R141). -/
theorem step_push (s : State) (rest : List HostEvent) (v : Word) :
    step { s with script := .write 0x08#8 4 v :: rest } =
      .next { push v s with script := rest, reply := some .written } := by
  calc step { s with script := .write 0x08#8 4 v :: rest }
      = .next ((push v { s with script := rest, reply := s.reply }).answer .written) :=
        step_write_reg .wpush rfl s rest v
    _ = .next { push v s with script := rest, reply := some .written } := by
        rw [push_with_host_side]
        rfl

theorem getElem_setIfInBounds_wcnt (s : State) (g : Index) (i : Nat) (h : i < 24) :
    (s.idx.setIfInBounds s.wcnt.toNat g)[i] = if i = s.wcnt.toNat then g else s.idx[i] := by
  simp only [Vector.getElem_setIfInBounds, eq_comm]

/-- Settles O19: the step is a push, and each of the three cases is an equation of the push. -/
theorem pushAppendsOneLookup : Obligations.PushAppendsOneLookup := by
  intro s rest v
  rw [step_push]
  refine ⟨fun hfull => ?_, fun hroom hv => ?_, fun hroom hv => ?_⟩
  · rw [push_of_full v hfull]
  · rw [push_of_valid hroom hv, BitVec.setWidth_eq_extractLsb' (by decide)]
    exact ⟨_, rfl, getElem_setIfInBounds_wcnt s _⟩
  · rw [push_of_invalid hroom hv]
    exact ⟨_, rfl, getElem_setIfInBounds_wcnt s _⟩

/-! ### `CLRW`, `UNPACK` and `PACK` -/

/-- Settles O21: the buffer that `CLRW` leaves is the one of the reset state. -/
theorem clrwEmptiesTheBuffer : Obligations.ClrwEmptiesTheBuffer :=
  ⟨decode_encode .clrw, fun _ => ⟨_, rfl, fun _ h => Vector.getElem_replicate h⟩⟩

theorem unpack_of_wrong_count {s : State} (hwcnt : s.wcnt ≠ 24#5) :
    unpack s = s.clearVfy.dropPlaintext.setErr .wcount := by
  rcases unpack_cases s with ⟨_, e⟩ | ⟨hfull, _⟩ | ⟨hfull, _⟩
  · exact e
  · exact absurd hfull hwcnt
  · exact absurd hfull hwcnt

theorem unpack_of_bad_word {s : State} (hwcnt : s.wcnt = 24#5) (hbadv : s.badv = true) :
    unpack s = s.clearVfy.dropPlaintext.setErr .badword := by
  rcases unpack_cases s with ⟨hcount, _⟩ | ⟨_, _, e⟩ | ⟨_, hvalid, _⟩
  · exact absurd hwcnt hcount
  · exact e
  · simp [hbadv] at hvalid

/-- A full, valid buffer holds the groups of the record that its indices spell (R143, R145). -/
theorem unpack_of_valid {s : State} (hwcnt : s.wcnt = 24#5) (hbadv : s.badv = false) :
    unpack s = (s.loadRecord (joinIndices s.idx)).setErr .ok :=
  unpack_of_splitRecord (splitRecord_joinIndices s.idx).symm hwcnt hbadv

/-- Group `i` of the record that 24 indices spell is index `i` (R77, R143). -/
theorem group_joinIndices (x : Vector Index 24) (i : Nat) (h : i < 24) : group (joinIndices x) i = x[i] := by
  rw [← getElem_splitRecord _ i h, splitRecord_joinIndices]

/-- Settles O22: the two failures in the order of R146, and the record that the indices spell. -/
theorem unpackResult : Obligations.UnpackResult := by
  refine ⟨decode_encode .unpack, fun s => ⟨fun hwcnt => ?_, fun hwcnt hbadv => ?_, fun hwcnt hbadv => ?_⟩⟩
  · exact congrArg _ (unpack_of_wrong_count hwcnt)
  · exact congrArg _ (unpack_of_bad_word hwcnt hbadv)
  · exact ⟨_, group_joinIndices s.idx, congrArg _ (unpack_of_valid hwcnt hbadv)⟩

/-- Settles O23: `PACK` fills the buffer with the groups of the record view (R30, R77). -/
theorem packResult : Obligations.PackResult :=
  ⟨decode_encode .pack, fun s => ⟨_, rfl, getElem_splitRecord s.record⟩⟩

/-! ### The two round trips (R145) -/

/-- `UNPACK` of what `PACK` left loads the record of the same registers. -/
theorem unpack_pack (s : State) :
    unpack (pack s) = { (pack s).writeSalt s.salt with ver := s.ver, ct := s.ct, ck := s.ck, err := .ok } := by
  rw [unpack_of_splitRecord (t := pack s) (r := s.record) rfl rfl rfl, State.record, loadRecord_append]
  rfl

/-- Settles O36: `PACK` leaves a full, valid buffer, whose record is the one that was packed. -/
theorem packUnpackRoundTrip : Obligations.PackUnpackRoundTrip := fun s =>
  ⟨_, _, rfl, congrArg Host.Outcome.next (unpack_pack s), rfl, rfl, rfl, rfl, rfl, rfl, rfl⟩

/-- `PACK` after `UNPACK` of a full, valid buffer writes the indices that it held. -/
theorem pack_unpack_idx {s : State} (hwcnt : s.wcnt = 24#5) (hbadv : s.badv = false) :
    (pack (unpack s)).idx = s.idx := by
  have hrecord : (unpack s).record = joinIndices s.idx := by
    rw [unpack_of_valid hwcnt hbadv]
    exact record_of_fields (joinIndices s.idx)
  calc (pack (unpack s)).idx
      = splitRecord (unpack s).record := rfl
    _ = s.idx := by rw [hrecord, splitRecord_joinIndices]

/-- The push of an index by the host: its 11 bits, zero-extended to a bus word (R82). -/
def pushIndex (s : State) (g : Index) : State := push (g.setWidth 32) s

theorem pushIndex_of_room {s : State} (hroom : s.wcnt.toNat < 24) (g : Index) :
    pushIndex s g = { s with idx := s.idx.setIfInBounds s.wcnt.toNat g, wcnt := s.wcnt + 1#5 } := by
  have hvalid : (g.setWidth 32 : Word).toNat < 2048 := by
    rw [BitVec.toNat_setWidth_of_le (by decide)]
    exact g.isLt
  rw [pushIndex, push_of_valid hroom hvalid, BitVec.setWidth_setWidth_of_le g (by decide), BitVec.setWidth_eq]

/-- A row of pushed indices that fits stands in the buffer from the old `WCNT` on, and none of it is invalid (R141). -/
theorem foldl_pushIndex (gs : List Index) {s : State} (hfits : s.wcnt.toNat + gs.length ≤ 24) :
    (gs.foldl pushIndex s).wcnt.toNat = s.wcnt.toNat + gs.length ∧
    (gs.foldl pushIndex s).badv = s.badv ∧
    ∀ (i : Nat) (h : i < 24), (gs.foldl pushIndex s).idx[i] =
      if s.wcnt.toNat ≤ i then gs.getD (i - s.wcnt.toNat) s.idx[i] else s.idx[i] := by
  induction gs generalizing s with
  | nil => simp
  | cons g gs ih =>
    rw [List.length_cons] at hfits
    have hpush := pushIndex_of_room (s := s) (by omega) g
    have hcount : (pushIndex s g).wcnt.toNat = s.wcnt.toNat + 1 := by
      rw [hpush]
      exact BitVec.toNat_add_of_lt (by simp; omega)
    have hbadv : (pushIndex s g).badv = s.badv := by rw [hpush]
    have hidx (i : Nat) (h : i < 24) : (pushIndex s g).idx[i] = if i = s.wcnt.toNat then g else s.idx[i] := by
      simp only [hpush, getElem_setIfInBounds_wcnt]
    obtain ⟨ihcount, ihbadv, ihidx⟩ := ih (s := pushIndex s g) (by omega)
    refine ⟨?_, ihbadv.trans hbadv, fun i h => ?_⟩
    · rw [List.foldl_cons, ihcount, hcount, List.length_cons]
      omega
    · rw [List.foldl_cons, ihidx i h, hcount, hidx i h]
      rcases Nat.lt_trichotomy i s.wcnt.toNat with hbefore | hhere | hafter
      · simp [show ¬ s.wcnt.toNat + 1 ≤ i by omega, show ¬ s.wcnt.toNat ≤ i by omega, Nat.ne_of_lt hbefore]
      · simp [hhere]
      · have hposition : i - s.wcnt.toNat = i - (s.wcnt.toNat + 1) + 1 := by omega
        rw [if_pos (Nat.succ_le_of_lt hafter), if_pos hafter.le, if_neg (Nat.ne_of_gt hafter), hposition,
          List.getD_cons_succ]

/-- 24 indices pushed into an empty, valid buffer fill it (R141). -/
theorem foldl_pushIndex_of_empty {s : State} (x : Vector Index 24) (hwcnt : s.wcnt = 0#5) (hbadv : s.badv = false) :
    (x.toList.foldl pushIndex s).idx = x ∧ (x.toList.foldl pushIndex s).wcnt = 24#5 ∧
      (x.toList.foldl pushIndex s).badv = false := by
  obtain ⟨hcount, hvalid, hidx⟩ := foldl_pushIndex x.toList (s := s) (by simp [hwcnt])
  refine ⟨Vector.ext fun i h => ?_, BitVec.eq_of_toNat_eq ?_, hvalid.trans hbadv⟩
  · rw [hidx i h]
    simp [hwcnt, h]
  · rw [hcount, hwcnt, Vector.length_toList]
    rfl

/-- The run of a row of pushes is the fold of `pushIndex`, each push answered `OKAY`. -/
theorem run_pushes (s : State) {gs : List Index} (hgs : gs ≠ []) :
    Host.Core.run Sys2Proof.core gs.length
        { s with script := gs.map fun g => HostEvent.write 0x08#8 4 (g.setWidth 32) } =
      .next { gs.foldl pushIndex s with script := [], reply := some .written } := by
  have hfirst (s : State) (g : Index) (rest : List HostEvent) := step_push s rest (g.setWidth 32)
  have hnext (s : State) (g : Index) (rest : List HostEvent) :
      step { s with script := .write 0x08#8 4 (g.setWidth 32) :: rest, reply := some .written } =
        .next { pushIndex s g with script := rest, reply := some .written } := by
    rw [hfirst { s with reply := some .written }, push_with_host_side _ s s.script]
    rfl
  have hrun := run_acts _ pushIndex (fun t => { t with reply := some .written }) (hfirst s) hnext hgs [] 0
  rwa [List.append_nil] at hrun

/-- The run of 24 pushes of indices into an empty, valid buffer leaves it full and valid (R141). -/
theorem run_pushes_of_empty {s : State} (x : Vector Index 24) (hwcnt : s.wcnt = 0#5) (hbadv : s.badv = false) :
    ∃ t, Host.Core.run Sys2Proof.core 24
        { s with script := x.toList.map fun g => HostEvent.write 0x08#8 4 (g.setWidth 32) } = .next t ∧
      t.idx = x ∧ t.wcnt = 24#5 ∧ t.badv = false := by
  have hlength : x.toList.length = 24 := Vector.length_toList
  have hrun := run_pushes s (gs := x.toList) (List.ne_nil_of_length_pos (by omega))
  rw [hlength] at hrun
  exact ⟨_, hrun, foldl_pushIndex_of_empty x hwcnt hbadv⟩

/-- Settles O37: the pushes fill the empty buffer with `x`, and `PACK` after `UNPACK` writes back what it held. -/
theorem pushUnpackPackRoundTrip : Obligations.PushUnpackPackRoundTrip := by
  intro s x hwcnt hbadv
  obtain ⟨t, hrun, hidx, hfull, hvalid⟩ := run_pushes_of_empty x hwcnt hbadv
  have hok : (unpack t).err = .ok := by rw [unpack_of_valid hfull hvalid, State.setErr_err]
  exact ⟨t, unpack t, pack (unpack t), hrun, hidx, hfull, hvalid, rfl, hok, rfl,
    (pack_unpack_idx hfull hvalid).trans hidx⟩

end Sys2Proof.Proofs
end

section
/-! PROOFS. `43_system_macro.md`: the system commands `NOP` and `ZEROIZE` (R160, R163), the composed commands `OPEN` and
`SEAL` (R161, R162), the illegal words (R164) and the refusals (R165). -/

open Sys2Proof Sys2Proof.Machine

namespace Sys2Proof.Proofs

/-! ### Illegal words (R164) -/

/-- A word that breaks one of the two conditions of R80 and R85 decodes to no command. -/
theorem decode_of_illegal {w : Word} (h : w.extractLsb' 8 24 ≠ 0#24 ∨ 0x0B ≤ (w.extractLsb' 0 8).toNat) :
    ∃ e, decode w = .error e := by
  cases hdecode : decode w with
  | error e => exact ⟨e, rfl⟩
  | ok i =>
    obtain ⟨hrsv, hop⟩ := (commandWordLegality w).1 ⟨i, hdecode⟩
    rcases h with hbit | hopcode
    · exact absurd hrsv hbit
    · omega

/-- Settles O5: the legality test comes before everything else, and `ILLEGAL` gives no plaintext up. -/
theorem illegalWordOnlySetsErr : Obligations.IllegalWordOnlySetsErr := by
  intro s rest w hillegal
  obtain ⟨e, hdecode⟩ := decode_of_illegal hillegal
  rw [step_cmd_write, runCommand_of_error hdecode]
  rfl

/-! ### `NOP` and `ZEROIZE` -/

/-- Settles O20: `OK` is no failure, so `NOP` writes `ERR` alone. -/
theorem nopOnlyClearsErr : Obligations.NopOnlyClearsErr := ⟨decode_encode .nop, fun _ => rfl⟩

theorem allZero_zeroize (s : State) : AllZero (zeroize s) := allZero_host_side allZero_reset s.script s.reply

/-- Settles O32: `ZEROIZE` leaves the reset state around the host's side of the bus. -/
theorem zeroizeResult : Obligations.ZeroizeResult :=
  ⟨decode_encode .zeroize, fun s =>
    ⟨zeroize s, rfl, allZero_zeroize s, rfl, rfl, read_status_of_allZero (allZero_zeroize s)⟩⟩

/-! ### `OPEN` -/

/-- What `OPEN` can do (R161): its `UNPACK` fails and the record stays, or the record is loaded and its `VERIFY` fails
or passes. -/
theorem openRecord_cases (cfg : Config) (s : State) :
    (∃ c, (c = .wcount ∨ c = .badword) ∧ openRecord cfg s = s.clearVfy.dropPlaintext.setErr c) ∨
    (∃ c, (c = .badver ∨ c = .ckmis) ∧
      openRecord cfg s = (s.loadRecord (joinIndices s.idx)).dropPlaintext.setErr c) ∨
    openRecord cfg s = (s.loadRecord (joinIndices s.idx)).setVfy.setErr .ok := by
  rcases unpack_cases s with ⟨_, hunpack⟩ | ⟨_, _, hunpack⟩ | ⟨_, _, hunpack⟩
  · exact .inl ⟨_, .inl rfl, by rw [openRecord_of_error cfg (by simp [hunpack]), hunpack]⟩
  · exact .inl ⟨_, .inr rfl, by rw [openRecord_of_error cfg (by simp [hunpack]), hunpack]⟩
  · rw [openRecord_of_ok cfg (by simp [hunpack]), hunpack]
    rcases verify_cases cfg ((s.loadRecord (joinIndices s.idx)).setErr .ok) with ⟨_, e⟩ | ⟨_, _, e⟩ | ⟨_, _, e⟩
    · exact .inr (.inl ⟨_, .inl rfl, e⟩)
    · exact .inr (.inl ⟨_, .inr rfl, e⟩)
    · exact .inr (.inr e)

/-- Settles O28: the two commands are in `openRecord` as they are, and the flags are read off in each of its cases. -/
theorem openIsUnpackThenVerify : Obligations.OpenIsUnpackThenVerify := by
  refine ⟨decode_encode .openRecord, fun s => ⟨unpack s, openRecord csbConfig s, rfl, rfl,
    openRecord_of_error csbConfig, fun hok => congrArg _ (openRecord_of_ok csbConfig hok).symm, ?_⟩⟩
  rcases openRecord_cases csbConfig s with ⟨c, hc, e⟩ | ⟨c, hc, e⟩ | e <;> rw [e]
  · have hfails : c ≠ .ok := by rcases hc with rfl | rfl <;> decide
    exact ⟨fun hok => absurd hok hfails, fun _ => ⟨rfl, rfl, rfl, rfl⟩, fun _ => ⟨rfl, rfl, rfl, rfl, rfl, rfl⟩⟩
  · have hfails : c ≠ .ok := by rcases hc with rfl | rfl <;> decide
    have hloaded : ¬ (c = .wcount ∨ c = .badword) := by rcases hc with rfl | rfl <;> decide
    exact ⟨fun hok => absurd hok hfails, fun _ => ⟨rfl, rfl, rfl, rfl⟩, fun hunpack => absurd hunpack hloaded⟩
  · exact ⟨fun _ => ⟨rfl, by simp, rfl, rfl, rfl⟩, fun hfails => absurd rfl hfails, fun hunpack => by simp at hunpack⟩

/-! ### `SEAL` -/

/-- The state in which `SEAL` leaves a CSB with a complete key (R162). -/
def sealedFrom (cfg : Config) (s : State) : State :=
  { s.fillIndices (splitRecord (sealedRecord cfg s)) with
    ct := sealedCt cfg s
    ck := cfg.ck (s.ver ++ sealedCt cfg s ++ s.salt)
    vfy := false
    err := .ok }

theorem sealRecord_eq_sealedFrom (cfg : Config) {s : State} (hkey : s.kmask = 0xFF#8) :
    sealRecord cfg s = sealedFrom cfg s := by
  rw [sealRecord_of_key cfg hkey, encrypt_of_key cfg hkey]
  rfl

/-- Settles O30: the refusal, and with a complete key the state `sealedFrom`. -/
theorem sealResult : Obligations.SealResult :=
  ⟨decode_encode .sealRecord, fun s =>
    ⟨fun hmissing => congrArg _ (sealRecord_of_no_key csbConfig hmissing),
      fun hkey => ⟨sealedCt csbConfig s, _, splitRecord (sealedRecord csbConfig s), rfl, rfl, getElem_splitRecord _,
        congrArg _ (sealRecord_eq_sealedFrom csbConfig hkey)⟩⟩⟩

/-- Settles O31: with a complete key `SEAL` is its three commands, and the last of them leaves `OK` already. -/
theorem sealIsItsThreeCommands : Obligations.SealIsItsThreeCommands := fun _ hkey =>
  ⟨_, _, _, rfl, rfl, rfl, congrArg Host.Outcome.next (sealRecord_of_key csbConfig hkey)⟩

/-- `SEAL` made the checksum that `VERIFY` looks for (R123, R124). -/
theorem verify_sealedFrom {cfg : Config} {s : State} (hver : s.ver ∈ cfg.vset) :
    verify cfg (sealedFrom cfg s) = (sealedFrom cfg s).setVfy.setErr .ok := verify_of_valid hver rfl

/-- Settles O38: the sealed record is not marked verified, and `VERIFY` accepts it. -/
theorem sealThenVerifyAccepts : Obligations.SealThenVerifyAccepts := by
  intro s hkey hver
  have hverify := verify_sealedFrom (cfg := csbConfig) ((mem_csbConfig_vset s.ver).2 hver)
  exact ⟨sealedFrom csbConfig s, _, congrArg Host.Outcome.next (sealRecord_eq_sealedFrom csbConfig hkey), rfl,
    congrArg Host.Outcome.next hverify, rfl, rfl⟩

/-! ### The refusals (R165) -/

/-- The command is issued without the flags it needs: `VFY` and `KEYV` for `DECRYPT`, `KEYV` for `ENCRYPT` and
`SEAL` (R165). -/
def MissesFlags (i : Instr) (s : State) : Prop :=
  (i = .decrypt ∧ ¬ (s.vfy = true ∧ s.kmask = 0xFF#8)) ∨ ((i = .encrypt ∨ i = .sealRecord) ∧ s.kmask ≠ 0xFF#8)

theorem afterCommand_of_missesFlags {i : Instr} {s : State} (h : MissesFlags i s) :
    afterCommand i s = s.setErr .seq := by
  rcases h with ⟨rfl, hflags⟩ | ⟨rfl | rfl, hkey⟩
  · exact decrypt_of_missing_flag csbConfig (by simpa only [not_and_or, Bool.not_eq_true] using hflags)
  · exact encrypt_of_no_key csbConfig hkey
  · exact sealRecord_of_no_key csbConfig hkey

theorem unpack_err_ne_seq (s : State) : (unpack s).err ≠ .seq := by
  rcases unpack_cases s with ⟨_, e⟩ | ⟨_, _, e⟩ | ⟨_, _, e⟩ <;> simp [e]

theorem verify_err_ne_seq (cfg : Config) (s : State) : (verify cfg s).err ≠ .seq := by
  rcases verify_cases cfg s with ⟨_, e⟩ | ⟨_, _, e⟩ | ⟨_, _, e⟩ <;> simp [e]

theorem openRecord_err_ne_seq (cfg : Config) (s : State) : (openRecord cfg s).err ≠ .seq := by
  rcases openRecord_cases cfg s with ⟨_, rfl | rfl, e⟩ | ⟨_, rfl | rfl, e⟩ | e <;> simp [e]

/-- A command that has its flags, or needs none, ends with another code. -/
theorem afterCommand_err_ne_seq {i : Instr} {s : State} (h : ¬ MissesFlags i s) : (afterCommand i s).err ≠ .seq := by
  cases i with
  | unpack => exact unpack_err_ne_seq s
  | verify => exact verify_err_ne_seq csbConfig s
  | openRecord => exact openRecord_err_ne_seq csbConfig s
  | decrypt =>
    rcases decrypt_cases csbConfig s with ⟨hflags, _⟩ | ⟨_, _, _, e⟩ | ⟨_, _, _, _, e⟩
    · exact absurd (.inl ⟨rfl, hflags⟩) h
    · simp [afterCommand, e]
    · simp [afterCommand, e]
  | encrypt =>
    rcases encrypt_cases csbConfig s with ⟨hkey, _⟩ | ⟨_, e⟩
    · exact absurd (.inr ⟨.inl rfl, hkey⟩) h
    · simp [afterCommand, e]
  | sealRecord =>
    by_cases hkey : s.kmask = 0xFF#8
    · simp [afterCommand, sealRecord_eq_sealedFrom csbConfig hkey, sealedFrom]
    · exact absurd (.inr ⟨.inr rfl, hkey⟩) h
  | nop => simp [afterCommand, nop]
  | clrw => simp [afterCommand, clrw]
  | pack => simp [afterCommand, pack]
  | ckgen => simp [afterCommand, ckgen]
  | zeroize => simp [afterCommand, zeroize]

/-- Settles O33: without its flags a command only sets `ERR` to `SEQ`, and otherwise it ends with another code. -/
theorem seqExactlyWithoutTheFlags : Obligations.SeqExactlyWithoutTheFlags := by
  intro i s
  refine ⟨afterCommand i s, exec_eq_afterCommand i s, ?_⟩
  by_cases hmissing : MissesFlags i s
  · rw [afterCommand_of_missesFlags hmissing]
    exact ⟨iff_of_true rfl hmissing, fun _ => rfl⟩
  · have hother := afterCommand_err_ne_seq hmissing
    exact ⟨iff_of_false hother hmissing, fun hseq => absurd hseq hother⟩

end Sys2Proof.Proofs
end

section
/-! PROOFS. `60_exceptions.md`: the bus errors (R178, R179) and the order in which `OPEN` reports its causes (R180). -/

open Sys2Proof Sys2Proof.Machine

namespace Sys2Proof.Proofs

/-! ### A refused access changes only the reply (R178) -/

theorem step_read_of_refusal {a : Offset} {size : Nat} {k : Fault} (hrefuse : checkAccess .read a size = .error k)
    (s : State) (rest : List HostEvent) :
    step { s with script := .read a size :: rest } = .next { s with script := rest, reply := some (.error k) } := by
  rw [step_serves]
  simp only [serve, busRead, hrefuse]
  rfl

theorem step_write_of_refusal {a : Offset} {size : Nat} {k : Fault} (hrefuse : checkAccess .write a size = .error k)
    (s : State) (rest : List HostEvent) (v : Word) :
    step { s with script := .write a size v :: rest } = .next { s with script := rest, reply := some (.error k) } := by
  rw [step_serves]
  simp only [serve, busWrite, hrefuse]
  rfl

/-! ### The causes of the four kinds (R178), in the order of R179 -/

/-- An offset is a multiple of 4 exactly when its bits 1:0 are 0. -/
theorem low_bits_eq_zero_iff (a : Offset) : a.extractLsb' 0 2 = 0#2 ↔ a.toNat % 4 = 0 := by
  rw [← BitVec.toNat_inj, BitVec.extractLsb'_toNat, Nat.shiftRight_zero]
  rfl

/-- The first check of R52 looks at the size and at offset bits 1:0, and at neither the map nor the direction. -/
theorem checkAccess_of_size_or_low_bits (d : Dir) {a : Offset} {size : Nat}
    (h : size ≠ 4 ∨ a.extractLsb' 0 2 ≠ 0#2) : checkAccess d a size = .error .misaligned :=
  checkAccess_misaligned d a size (h.imp_right (mt (low_bits_eq_zero_iff a).2))

/-- The reserved offsets are aligned, so that the map alone refuses them (R51). -/
theorem checkAccess_reserved (d : Dir) {a : Offset} (h : a ∈ reservedOffsets) :
    checkAccess d a 4 = .error .unmapped := by
  have table : ∀ a ∈ reservedOffsets, a.toNat % 4 = 0 ∧ regAt a = none := by decide
  obtain ⟨haligned, hmap⟩ := table a h
  simp [checkAccess, haligned, hmap]

theorem mem_idxOffsets_iff (a : Offset) : a ∈ idxOffsets ↔ ∃ i, (Reg.idx i).offset = a := by
  have hlist : idxOffsets = (List.finRange 24).map fun i => (Reg.idx i).offset := by decide
  simp [hlist]

theorem mem_keyOffsets_iff (a : Offset) : a ∈ keyOffsets ↔ ∃ j, (Reg.key j).offset = a := by
  have hlist : keyOffsets = (List.finRange 8).map fun j => (Reg.key j).offset := by decide
  simp [hlist]

/-- `STATUS` and `IDX0..IDX23` take no write (R52). -/
theorem checkAccess_write_readOnly {a : Offset} (h : a = 0x04#8 ∨ a ∈ idxOffsets) :
    checkAccess .write a 4 = .error .readOnly := by
  rw [mem_idxOffsets_iff] at h
  rcases h with rfl | ⟨i, rfl⟩
  · exact checkAccess_offset_error .write .status rfl
  · exact checkAccess_offset_error .write (.idx i) rfl

/-- `CMD`, `WPUSH` and `KEY0..KEY7` take no read (R52). -/
theorem checkAccess_read_writeOnly {a : Offset} (h : a = 0x00#8 ∨ a = 0x08#8 ∨ a ∈ keyOffsets) :
    checkAccess .read a 4 = .error .writeOnly := by
  rw [mem_keyOffsets_iff] at h
  rcases h with rfl | rfl | ⟨j, rfl⟩
  · exact checkAccess_offset_error .read .cmd rfl
  · exact checkAccess_offset_error .read .wpush rfl
  · exact checkAccess_offset_error .read (.key j) rfl

/-- Settles O12: the check that each cause fails, and what a step does with a failed check. -/
theorem busErrorsChangeNothing : Obligations.BusErrorsChangeNothing := by
  refine ⟨fun s rest a size v => ⟨fun hcause => ?misaligned, fun hcause => ?unmapped, fun hcause => ?readOnly,
    fun hcause => ?writeOnly⟩, fun _ => ⟨rfl, rfl⟩⟩
  case misaligned =>
    exact ⟨step_read_of_refusal (checkAccess_of_size_or_low_bits .read hcause) s rest,
      step_write_of_refusal (checkAccess_of_size_or_low_bits .write hcause) s rest v⟩
  case unmapped =>
    exact ⟨step_read_of_refusal (checkAccess_reserved .read hcause) s rest,
      step_write_of_refusal (checkAccess_reserved .write hcause) s rest v⟩
  case readOnly => exact step_write_of_refusal (checkAccess_write_readOnly hcause) s rest v
  case writeOnly => exact step_read_of_refusal (checkAccess_read_writeOnly hcause) s rest

/-! ### The order of `OPEN`'s causes (R180) -/

/-- The indices that are the groups of a record are the cut of that record (R77). -/
theorem idx_eq_splitRecord {s : State} {r : Record} (h : ∀ (i : Nat) (hi : i < 24), group r i = s.idx[i]) :
    s.idx = splitRecord r :=
  Vector.ext fun i hi => by rw [getElem_splitRecord r i hi, h i hi]

theorem loadRecord_body (s : State) (r : Record) : (s.loadRecord r).body = recBody r := withRecord_body s r

/-- The version is tested before the checksum (R125). -/
theorem verify_err (cfg : Config) (s : State) :
    (verify cfg s).err =
      if s.ver ∉ cfg.vset then .badver else if cfg.ck s.body ≠ s.ck then .ckmis else .ok := by
  rcases verify_cases cfg s with ⟨hver, e⟩ | ⟨hver, hck, e⟩ | ⟨hver, hck, e⟩
  · rw [e, if_pos hver]
    rfl
  · rw [e, if_neg (not_not_intro hver), if_pos hck]
    rfl
  · rw [e, if_neg (not_not_intro hver), if_neg (not_not_intro hck)]
    rfl

/-- `OPEN` of a full, valid buffer is `VERIFY` of the record that its indices spell (R161). -/
theorem openRecord_of_splitRecord (cfg : Config) {s : State} {r : Record} (hidx : s.idx = splitRecord r)
    (hwcnt : s.wcnt = 24#5) (hbadv : s.badv = false) :
    openRecord cfg s = verify cfg ((s.loadRecord r).setErr .ok) := by
  have hunpack := unpack_of_splitRecord hidx hwcnt hbadv
  rw [openRecord_of_ok cfg (by rw [hunpack]; rfl), hunpack]

/-- The count, the words, the version, the checksum: `OPEN` reports the first that fails (R180). -/
theorem openRecord_err (cfg : Config) {s : State} {r : Record} (hidx : s.idx = splitRecord r) :
    (openRecord cfg s).err =
      if s.wcnt ≠ 24#5 then .wcount
      else if s.badv = true then .badword
      else if recVer r ∉ cfg.vset then .badver
      else if cfg.ck (recBody r) ≠ recCk r then .ckmis
      else .ok := by
  split
  next hcount =>
    have hunpack := unpack_of_wrong_count hcount
    rw [openRecord_of_error cfg (by simp [hunpack]), hunpack, State.setErr_err]
  next hcount =>
    have hfull : s.wcnt = 24#5 := not_not.1 hcount
    split
    next hbad =>
      have hunpack := unpack_of_bad_word hfull hbad
      rw [openRecord_of_error cfg (by simp [hunpack]), hunpack, State.setErr_err]
    next hvalid =>
      rw [openRecord_of_splitRecord cfg hidx hfull (Bool.eq_false_of_not_eq_true hvalid), verify_err,
        ← loadRecord_body s r]
      rfl

/-- Settles O29: the chain of `openRecord_err` for the record of the groups, with the supported set of R126. -/
theorem openReportsTheFirstCause : Obligations.OpenReportsTheFirstCause := by
  intro s r hgroups
  have herr := openRecord_err csbConfig (idx_eq_splitRecord hgroups)
  simp only [mem_csbConfig_vset] at herr
  exact ⟨openRecord csbConfig s, rfl, herr⟩

end Sys2Proof.Proofs
end

section
/-! PROOFS. `70_reset_and_hazards.md`: no act of the host ends the machine (R203, R213), what the commands do on the
reset state (R202), and the ordering hazards (R208 to R210). -/

open Sys2Proof Sys2Proof.Machine

namespace Sys2Proof.Proofs

/-! ### Every run goes on -/

theorem serve_answers_next (e : HostEvent) (s : State) : ∃ t, serve e s = .next t := by
  cases e with
  | read a size => exact ⟨_, rfl⟩
  | write a size v =>
    obtain ⟨u, y, hserve, _⟩ := serve_write_answers a size v s
    exact ⟨_, hserve⟩
  | reset => exact ⟨_, rfl⟩

theorem step_answers_next (s : State) : ∃ t, step s = .next t := by
  cases hscript : s.script with
  | nil => exact ⟨s, step_of_empty hscript⟩
  | cons e rest =>
    obtain ⟨t, hserve⟩ := serve_answers_next e { s with script := rest }
    exact ⟨t, (step_of_cons hscript).trans hserve⟩

/-- Settles O8, by induction on the number of steps. -/
theorem everyRunGoesOn : Obligations.EveryRunGoesOn := by
  intro k
  induction k with
  | zero => exact fun s => ⟨s, rfl⟩
  | succ k ih =>
    intro s
    obtain ⟨t, hstep⟩ := step_answers_next s
    rw [run_succ k hstep]
    exact ih t

/-! ### Commands without the words or the flags they need (R143, R161, R165) -/

theorem openRecord_of_wrong_count (cfg : Config) {s : State} (hwcnt : s.wcnt ≠ 24#5) :
    openRecord cfg s = s.clearVfy.dropPlaintext.setErr .wcount := by
  have hunpack := unpack_of_wrong_count hwcnt
  rw [openRecord_of_error cfg (by simp [hunpack]), hunpack]

/-- Both commands that unpack look at the count first (R143, R161). -/
theorem afterCommand_of_wrong_count {i : Instr} (hi : i = .unpack ∨ i = .openRecord) {s : State}
    (hwcnt : s.wcnt ≠ 24#5) : afterCommand i s = s.clearVfy.dropPlaintext.setErr .wcount := by
  rcases hi with rfl | rfl
  · exact unpack_of_wrong_count hwcnt
  · exact openRecord_of_wrong_count csbConfig hwcnt

/-- Without the key no command of the cipher path has its flags (R165). -/
theorem missesFlags_of_no_key {i : Instr} (hi : i = .encrypt ∨ i = .sealRecord ∨ i = .decrypt) {s : State}
    (hkey : s.kmask ≠ 0xFF#8) : MissesFlags i s := by
  rcases hi with rfl | rfl | rfl
  · exact .inr ⟨.inl rfl, hkey⟩
  · exact .inr ⟨.inr rfl, hkey⟩
  · exact .inl ⟨rfl, fun hflags => hkey hflags.2⟩

theorem missesFlags_decrypt_of_unverified {s : State} (hvfy : s.vfy = false) : MissesFlags .decrypt s :=
  .inl ⟨rfl, fun hflags => by simp [hvfy] at hflags⟩

/-! ### The commands on the reset state (R202) -/

/-- The checksum of 29 zero bytes (R121). -/
theorem checksum_zero_body : csbConfig.ck 0#232 = 0x4BFED238#32 := by
  obtain ⟨_, _, _, hzeros, _⟩ := checksumCheckValues
  have hbytes : bodyBytes 0#232 = List.replicate 29 0#8 := by decide
  rw [csbConfig_ck, checksum_eq_crc32c, hbytes, hzeros]

theorem splitRecord_zero : splitRecord 0#264 = Vector.replicate 24 0#11 := by
  refine Vector.ext fun i hi => ?_
  rw [getElem_splitRecord _ i hi, Vector.getElem_replicate, group, BitVec.extractLsb'_zero]

theorem reset_body : State.reset.body = 0#232 := by decide

theorem reset_record : State.reset.record = 0#264 := by simp [State.record]

/-- Version 0 is supported, so that `VERIFY` reaches the checksum, which is not 0 (R124, R126). -/
theorem verify_reset : verify csbConfig State.reset = { State.reset with err := .ckmis } := by
  refine verify_of_mismatch ((mem_csbConfig_vset _).2 rfl) ?_
  rw [reset_body, checksum_zero_body]
  decide

theorem ckgen_reset : ckgen csbConfig State.reset = { State.reset with ck := 0x4BFED238#32 } := by
  rw [ckgen, reset_body, checksum_zero_body]
  rfl

theorem pack_reset : pack State.reset = { State.reset with wcnt := 24#5 } := by
  rw [pack, reset_record, splitRecord_zero]
  rfl

/-- Settles O35: on the reset state no word is pushed, no flag is set and the record is zero. -/
theorem commandsOnTheResetState : Obligations.CommandsOnTheResetState := by
  refine ⟨fun i hi => ?zeroing, fun i hi => ?unpacking, fun i hi => ?cipher, congrArg _ verify_reset,
    congrArg _ ckgen_reset, congrArg _ pack_reset⟩
  case zeroing => rcases hi with rfl | rfl | rfl <;> rfl
  case unpacking =>
    rw [exec_eq_afterCommand, afterCommand_of_wrong_count hi (by decide)]
    rfl
  case cipher =>
    have hcipher : i = .encrypt ∨ i = .sealRecord ∨ i = .decrypt := by tauto
    rw [exec_eq_afterCommand, afterCommand_of_missesFlags (missesFlags_of_no_key hcipher (by decide))]
    rfl

/-! ### A register write, then a command (R208 to R210) -/

theorem step_command {s : State} {i : Instr} {rest : List HostEvent}
    (hscript : s.script = .write 0x00#8 4 (encode i) :: rest) :
    step s = .next ((afterCommand i { s with script := rest }).answer .written) := by
  calc step s
      = mapNext (fun t => t.answer .written) (runCommand (encode i) { s with script := rest }) :=
        (step_of_cons hscript).trans (busWrite_offset .cmd rfl _ _)
    _ = .next ((afterCommand i { s with script := rest }).answer .written) := by
        rw [runCommand_of_ok (decode_encode i), exec_eq_afterCommand, mapNext_next]

/-- The command finds what the write to the register left: nothing comes between the two (R207). -/
theorem run_write_then_command {r : Reg} (hmode : modeError .write r.mode = none) {s u : State} {v : Word} {i : Instr}
    (hwrite : writeReg r v { s with script := [.write 0x00#8 4 (encode i)] } = .next u) :
    Host.Core.run Sys2Proof.core 2 { s with script := [.write r.offset 4 v, .write 0x00#8 4 (encode i)] } =
      .next ((afterCommand i { u with script := [], reply := some .written }).answer .written) := by
  have hscript : u.script = [.write 0x00#8 4 (encode i)] := by
    obtain ⟨u', hwrite', hkept⟩ := writeReg_answers_next r v { s with script := [.write 0x00#8 4 (encode i)] }
    cases hwrite'.symm.trans hwrite
    exact hkept
  have hfirst : step { s with script := [.write r.offset 4 v, .write 0x00#8 4 (encode i)] } =
      .next (u.answer .written) := by
    rw [step_write_reg r hmode, hwrite, mapNext_next]
  rw [run_succ 1 hfirst, run_succ 0 (step_command (s := u.answer .written) hscript), run_zero]
  rfl

/-- A register write that leaves a command without its flags makes it end with `SEQ` (R165). -/
theorem run_write_then_refused {r : Reg} (hmode : modeError .write r.mode = none) {s u : State} {v : Word} {i : Instr}
    (hwrite : writeReg r v { s with script := [.write 0x00#8 4 (encode i)] } = .next u) (hmissing : MissesFlags i u) :
    ∃ t, Host.Core.run Sys2Proof.core 2
      { s with script := [.write r.offset 4 v, .write 0x00#8 4 (encode i)] } = .next t ∧ t.err = .seq := by
  have hflags : MissesFlags i { u with script := [], reply := some .written } := hmissing
  refine ⟨_, run_write_then_command hmode hwrite, ?_⟩
  rw [afterCommand_of_missesFlags hflags]
  rfl

theorem mem_saltOffsets_iff (a : Offset) : a ∈ saltOffsets ↔ ∃ j, (Reg.salt j).offset = a := by
  have hlist : saltOffsets = (List.finRange 3).map fun j => (Reg.salt j).offset := by decide
  simp [hlist]

theorem mem_ctOffsets_iff (a : Offset) : a ∈ ctOffsets ↔ ∃ j, (Reg.ct j).offset = a := by
  have hlist : ctOffsets = (List.finRange 5).map fun j => (Reg.ct j).offset := by decide
  simp [hlist]

/-- Settles O54: the write drops the key, which each of the three commands needs. -/
theorem saltWriteForcesSeq : Obligations.SaltWriteForcesSeq := by
  intro s a v i ha hi
  obtain ⟨j, rfl⟩ := (mem_saltOffsets_iff a).1 ha
  exact run_write_then_refused (r := .salt j) rfl rfl (missesFlags_of_no_key hi (by simp))

/-- The registers of the record (R30, R51). -/
theorem mem_recordOffsets_iff (a : Offset) :
    a ∈ recordOffsets ↔ a = Reg.ver.offset ∨ a = Reg.cksum.offset ∨ (∃ j, (Reg.ct j).offset = a) ∨
      ∃ j, (Reg.salt j).offset = a := by
  rw [← mem_ctOffsets_iff, ← mem_saltOffsets_iff]
  simp [recordOffsets, Reg.offset]

/-- Settles O55: the write clears `VFY`, whichever register of the record it is to. -/
theorem recordWriteForcesSeqOnDecrypt : Obligations.RecordWriteForcesSeqOnDecrypt := by
  intro s a v ha
  rw [show 0x00000006#32 = encode .decrypt from rfl]
  rcases (mem_recordOffsets_iff a).1 ha with rfl | rfl | ⟨j, rfl⟩ | ⟨j, rfl⟩
  · exact run_write_then_refused (r := .ver) rfl rfl (missesFlags_decrypt_of_unverified rfl)
  · exact run_write_then_refused (r := .cksum) rfl rfl (missesFlags_decrypt_of_unverified rfl)
  · exact run_write_then_refused (r := .ct j) rfl rfl (missesFlags_decrypt_of_unverified rfl)
  · exact run_write_then_refused (r := .salt j) rfl rfl (missesFlags_decrypt_of_unverified rfl)

theorem writeReg_wpush_of_full (v : Word) {s : State} (hfull : 24 ≤ s.wcnt.toNat) :
    writeReg .wpush v s = .next { s with wcnt := 25#5 } := congrArg Host.Outcome.next (push_of_full v hfull)

/-- Settles O56: the push makes the count 25, at which `UNPACK`, alone or inside `OPEN`, stops. -/
theorem pushOnFullBufferForcesWcount : Obligations.PushOnFullBufferForcesWcount := by
  intro s v i hfull hi
  refine ⟨_, run_write_then_command (r := .wpush) rfl (writeReg_wpush_of_full v hfull), ?_⟩
  rw [afterCommand_of_wrong_count hi (by simp)]
  exact ⟨rfl, rfl⟩

end Sys2Proof.Proofs
end
